-- ==== Sys2Proof/Word.lean ====
section
/-! DEFINITION. The two word types of the 8080 and how a 16-bit value is made of two bytes. -/

namespace Sys2Proof

/-- A byte: the width of B, C, D, E, H, L, A and of every memory access (R6 `REG_BITS`, R43). -/
abbrev Byte := BitVec 8

/-- A 16-bit value: SP, PC, a register pair, a memory address (R6 `ADDR_BITS`). -/
abbrev Word := BitVec 16

/-- The primitive `a ++ b` of R8 on two bytes: `hi` is the high half. -/
def wordOf (hi lo : Byte) : Word := hi ++ lo

/-- `v[15:8]`. -/
def hiByte (v : Word) : Byte := v.extractLsb' 8 8

/-- `v[7:0]`. -/
def loByte (v : Word) : Byte := v.extractLsb' 0 8

end Sys2Proof
end

