-- ==== Sys2Proof/Config.lean ====
section
/-! DEFINITION. The parameters of the machine (R6) and its free values. A parameter is plain data that
`State` carries in its field `board`; a free value is an opaque constant here, which nothing can
evaluate, so that a claim holds whatever it is. -/

namespace Sys2Proof

/-- `VARIANT` (R2, R6): which of the two machines of the manual. They differ in the clock counts and in
whether the arithmetic instructions write P (R86). -/
inductive Variant
  | i8080
  | mycpu80
  deriving DecidableEq, Repr

/-- `DAA_H` (R6, R157): whether DAA writes the half carry. -/
inductive DaaH
  | unchanged
  | carry3
  deriving DecidableEq, Repr

/-- What `MEMORY_MAP` makes of an address (R6, R51, R260). -/
inductive MemKind
  | ram
  | rom
  | absent
  | device
  deriving DecidableEq, Repr

/-- One region of `MEMORY_MAP`: the addresses `lo` to `hi`, both included. -/
structure Region where
  lo : Word
  hi : Word
  kind : MemKind
  deriving DecidableEq, Repr

/-- The parameters of R6 that a reader may set. The board does not change while the machine runs. -/
structure Board where
  variant : Variant
  daaH : DaaH
  resetPc : Word
  memMap : List Region
  deriving DecidableEq, Repr

/-- The defaults of R6: the 8080 (D1), DAA leaves H (D9), `RESET_PC = 0x0000` (D3), all memory RAM (D21). -/
def Board.default : Board :=
  { variant := .i8080, daaH := .unchanged, resetPc := 0x0000#16, memMap := [] }

/-- An event the environment sees: a byte handed to an I/O device (R211), or to a device that
`MEMORY_MAP` puts at a memory address (R260). -/
inductive BusEvent
  | ioWrite (port value : Byte)
  | memWrite (addr : Word) (value : Byte)
  deriving DecidableEq, Repr

/-- Why a byte of memory is read: as part of an instruction, or as an operand of one (R47). -/
inductive Access
  | fetch
  | data
  deriving DecidableEq, Repr

/-- `F_UNUSED` (R6, R122, D6): the bits 5, 3, 1 that one PUSH PSW stores, drawn afresh for each `tick`. -/
opaque Config.fUnused (tick : Nat) : BitVec 3

/-- `IoRead` (R98, D19): the byte a device answers with when nothing in `ioIn` is ready. It may depend on
everything the device has been told. -/
opaque Config.ioByte (tick : Nat) (told : List BusEvent) (port : Byte) : Byte

/-- What a read of an absent address or of a memory-mapped device returns (R51: a draw). -/
opaque Config.busByte (tick : Nat) (told : List BusEvent) (why : Access) (addr : Word) : Byte

/-- The register numbered `r` (R13) after the reset signal (R250, R251), whatever it held before. -/
opaque Config.resetReg (tick : Nat) (r : BitVec 3) (old : Byte) : Byte

/-- SP after the reset signal (R250, R251). -/
opaque Config.resetSp (tick : Nat) (old : Word) : Word

/-- The flags S, Z, H, P, C (bit 4 to bit 0) after the reset signal (R250, R251). -/
opaque Config.resetFlags (tick : Nat) (old : BitVec 5) : BitVec 5

end Sys2Proof
end

