-- ==== Sys2Proof/Syntax.lean ====
section
/-! DEFINITION. The instruction set: `Instr`, one constructor for each of the 244 rows of
spec/opcode_table.json (R66), and `Form`, the same set written with its fields (R63), so that one
statement can speak of a whole row of the manual's tables. `Instr.form` and `Form.instr` go between the two. -/

namespace Sys2Proof

/-- The seven 8-bit general registers (R13). -/
inductive Reg
  | b | c | d | e | h | l | a
  deriving DecidableEq, Repr

/-- The register pairs (R15). -/
inductive Pair
  | bc | de | hl
  deriving DecidableEq, Repr

/-- The operand field `pp` of LXI, DAD, INX, DCX (R63): a register pair or SP. -/
inductive PairSp
  | bc | de | hl | sp
  deriving DecidableEq, Repr

/-- The pairs through which LDAX and STAX address memory (R16). -/
inductive PairIx
  | bc | de
  deriving DecidableEq, Repr

/-- The eight accumulator operations, field `ooo` (R63). -/
inductive AluOp
  | add | adc | sub | sbb | ana | xra | ora | cmp
  deriving DecidableEq, Repr

/-- The three forms of the second operand of an accumulator operation (R88). -/
inductive Operand
  | reg (r : Reg)
  | mem
  | imm (d8 : Byte)
  deriving DecidableEq, Repr

/-- The eight conditions, field `ccc` (R93). -/
inductive Cond
  | nz | z | nc | c | po | pe | p | m
  deriving DecidableEq, Repr

/-- The instructions, in the order of the manual's entries. -/
inductive Instr
  /-- `MOV B,B` (R101) -/
  | movBB
  /-- `MOV B,C` (R101) -/
  | movBC
  /-- `MOV B,D` (R101) -/
  | movBD
  /-- `MOV B,E` (R101) -/
  | movBE
  /-- `MOV B,H` (R101) -/
  | movBH
  /-- `MOV B,L` (R101) -/
  | movBL
  /-- `MOV B,A` (R101) -/
  | movBA
  /-- `MOV C,B` (R101) -/
  | movCB
  /-- `MOV C,C` (R101) -/
  | movCC
  /-- `MOV C,D` (R101) -/
  | movCD
  /-- `MOV C,E` (R101) -/
  | movCE
  /-- `MOV C,H` (R101) -/
  | movCH
  /-- `MOV C,L` (R101) -/
  | movCL
  /-- `MOV C,A` (R101) -/
  | movCA
  /-- `MOV D,B` (R101) -/
  | movDB
  /-- `MOV D,C` (R101) -/
  | movDC
  /-- `MOV D,D` (R101) -/
  | movDD
  /-- `MOV D,E` (R101) -/
  | movDE
  /-- `MOV D,H` (R101) -/
  | movDH
  /-- `MOV D,L` (R101) -/
  | movDL
  /-- `MOV D,A` (R101) -/
  | movDA
  /-- `MOV E,B` (R101) -/
  | movEB
  /-- `MOV E,C` (R101) -/
  | movEC
  /-- `MOV E,D` (R101) -/
  | movED
  /-- `MOV E,E` (R101) -/
  | movEE
  /-- `MOV E,H` (R101) -/
  | movEH
  /-- `MOV E,L` (R101) -/
  | movEL
  /-- `MOV E,A` (R101) -/
  | movEA
  /-- `MOV H,B` (R101) -/
  | movHB
  /-- `MOV H,C` (R101) -/
  | movHC
  /-- `MOV H,D` (R101) -/
  | movHD
  /-- `MOV H,E` (R101) -/
  | movHE
  /-- `MOV H,H` (R101) -/
  | movHH
  /-- `MOV H,L` (R101) -/
  | movHL
  /-- `MOV H,A` (R101) -/
  | movHA
  /-- `MOV L,B` (R101) -/
  | movLB
  /-- `MOV L,C` (R101) -/
  | movLC
  /-- `MOV L,D` (R101) -/
  | movLD
  /-- `MOV L,E` (R101) -/
  | movLE
  /-- `MOV L,H` (R101) -/
  | movLH
  /-- `MOV L,L` (R101) -/
  | movLL
  /-- `MOV L,A` (R101) -/
  | movLA
  /-- `MOV A,B` (R101) -/
  | movAB
  /-- `MOV A,C` (R101) -/
  | movAC
  /-- `MOV A,D` (R101) -/
  | movAD
  /-- `MOV A,E` (R101) -/
  | movAE
  /-- `MOV A,H` (R101) -/
  | movAH
  /-- `MOV A,L` (R101) -/
  | movAL
  /-- `MOV A,A` (R101) -/
  | movAA
  /-- `MOV B,M` (R102) -/
  | movBM
  /-- `MOV C,M` (R102) -/
  | movCM
  /-- `MOV D,M` (R102) -/
  | movDM
  /-- `MOV E,M` (R102) -/
  | movEM
  /-- `MOV H,M` (R102) -/
  | movHM
  /-- `MOV L,M` (R102) -/
  | movLM
  /-- `MOV A,M` (R102) -/
  | movAM
  /-- `MOV M,B` (R103) -/
  | movMB
  /-- `MOV M,C` (R103) -/
  | movMC
  /-- `MOV M,D` (R103) -/
  | movMD
  /-- `MOV M,E` (R103) -/
  | movME
  /-- `MOV M,H` (R103) -/
  | movMH
  /-- `MOV M,L` (R103) -/
  | movML
  /-- `MOV M,A` (R103) -/
  | movMA
  /-- `MVI B,B2` (R104) -/
  | mviB (d8 : Byte)
  /-- `MVI C,B2` (R104) -/
  | mviC (d8 : Byte)
  /-- `MVI D,B2` (R104) -/
  | mviD (d8 : Byte)
  /-- `MVI E,B2` (R104) -/
  | mviE (d8 : Byte)
  /-- `MVI H,B2` (R104) -/
  | mviH (d8 : Byte)
  /-- `MVI L,B2` (R104) -/
  | mviL (d8 : Byte)
  /-- `MVI A,B2` (R104) -/
  | mviA (d8 : Byte)
  /-- `MVI M,B2` (R105) -/
  | mviM (d8 : Byte)
  /-- `LDAX B` (R106) -/
  | ldaxB
  /-- `LDAX D` (R107) -/
  | ldaxD
  /-- `LDA B3B2` (R108) -/
  | lda (a16 : Word)
  /-- `STAX B` (R109) -/
  | staxB
  /-- `STAX D` (R110) -/
  | staxD
  /-- `STA B3B2` (R111) -/
  | sta (a16 : Word)
  /-- `LXI B,B3B2` (R112) -/
  | lxiB (d16 : Word)
  /-- `LXI D,B3B2` (R113) -/
  | lxiD (d16 : Word)
  /-- `LXI H,B3B2` (R114) -/
  | lxiH (d16 : Word)
  /-- `LXI SP,B3B2` (R115) -/
  | lxiSP (d16 : Word)
  /-- `LHLD B3B2` (R116) -/
  | lhld (a16 : Word)
  /-- `SHLD B3B2` (R117) -/
  | shld (a16 : Word)
  /-- `SPHL` (R118) -/
  | sphl
  /-- `PUSH B` (R119) -/
  | pushB
  /-- `PUSH D` (R120) -/
  | pushD
  /-- `PUSH H` (R121) -/
  | pushH
  /-- `PUSH PSW` (R122) -/
  | pushPSW
  /-- `POP B` (R123) -/
  | popB
  /-- `POP D` (R124) -/
  | popD
  /-- `POP H` (R125) -/
  | popH
  /-- `POP PSW` (R126) -/
  | popPSW
  /-- `XCHG` (R127) -/
  | xchg
  /-- `XTHL` (R128) -/
  | xthl
  /-- `ADD B` (R129) -/
  | addB
  /-- `ADD C` (R129) -/
  | addC
  /-- `ADD D` (R129) -/
  | addD
  /-- `ADD E` (R129) -/
  | addE
  /-- `ADD H` (R129) -/
  | addH
  /-- `ADD L` (R129) -/
  | addL
  /-- `ADD A` (R129) -/
  | addA
  /-- `ADI B2` (R130) -/
  | adi (d8 : Byte)
  /-- `ADD M` (R131) -/
  | addM
  /-- `ADC B` (R132) -/
  | adcB
  /-- `ADC C` (R132) -/
  | adcC
  /-- `ADC D` (R132) -/
  | adcD
  /-- `ADC E` (R132) -/
  | adcE
  /-- `ADC H` (R132) -/
  | adcH
  /-- `ADC L` (R132) -/
  | adcL
  /-- `ADC A` (R132) -/
  | adcA
  /-- `ACI B2` (R133) -/
  | aci (d8 : Byte)
  /-- `ADC M` (R134) -/
  | adcM
  /-- `SUB B` (R135) -/
  | subB
  /-- `SUB C` (R135) -/
  | subC
  /-- `SUB D` (R135) -/
  | subD
  /-- `SUB E` (R135) -/
  | subE
  /-- `SUB H` (R135) -/
  | subH
  /-- `SUB L` (R135) -/
  | subL
  /-- `SUB A` (R135) -/
  | subA
  /-- `SUI B2` (R136) -/
  | sui (d8 : Byte)
  /-- `SUB M` (R137) -/
  | subM
  /-- `SBB B` (R138) -/
  | sbbB
  /-- `SBB C` (R138) -/
  | sbbC
  /-- `SBB D` (R138) -/
  | sbbD
  /-- `SBB E` (R138) -/
  | sbbE
  /-- `SBB H` (R138) -/
  | sbbH
  /-- `SBB L` (R138) -/
  | sbbL
  /-- `SBB A` (R138) -/
  | sbbA
  /-- `SBI B2` (R139) -/
  | sbi (d8 : Byte)
  /-- `SBB M` (R140) -/
  | sbbM
  /-- `ANA B` (R141) -/
  | anaB
  /-- `ANA C` (R141) -/
  | anaC
  /-- `ANA D` (R141) -/
  | anaD
  /-- `ANA E` (R141) -/
  | anaE
  /-- `ANA H` (R141) -/
  | anaH
  /-- `ANA L` (R141) -/
  | anaL
  /-- `ANA A` (R141) -/
  | anaA
  /-- `ANI B2` (R142) -/
  | ani (d8 : Byte)
  /-- `ANA M` (R143) -/
  | anaM
  /-- `ORA B` (R144) -/
  | oraB
  /-- `ORA C` (R144) -/
  | oraC
  /-- `ORA D` (R144) -/
  | oraD
  /-- `ORA E` (R144) -/
  | oraE
  /-- `ORA H` (R144) -/
  | oraH
  /-- `ORA L` (R144) -/
  | oraL
  /-- `ORA A` (R144) -/
  | oraA
  /-- `ORI B2` (R145) -/
  | ori (d8 : Byte)
  /-- `ORA M` (R146) -/
  | oraM
  /-- `XRA B` (R147) -/
  | xraB
  /-- `XRA C` (R147) -/
  | xraC
  /-- `XRA D` (R147) -/
  | xraD
  /-- `XRA E` (R147) -/
  | xraE
  /-- `XRA H` (R147) -/
  | xraH
  /-- `XRA L` (R147) -/
  | xraL
  /-- `XRA A` (R147) -/
  | xraA
  /-- `XRI B2` (R148) -/
  | xri (d8 : Byte)
  /-- `XRA M` (R149) -/
  | xraM
  /-- `CMP B` (R150) -/
  | cmpB
  /-- `CMP C` (R150) -/
  | cmpC
  /-- `CMP D` (R150) -/
  | cmpD
  /-- `CMP E` (R150) -/
  | cmpE
  /-- `CMP H` (R150) -/
  | cmpH
  /-- `CMP L` (R150) -/
  | cmpL
  /-- `CMP A` (R150) -/
  | cmpA
  /-- `CPI B2` (R151) -/
  | cpi (d8 : Byte)
  /-- `CMP M` (R152) -/
  | cmpM
  /-- `INR B` (R153) -/
  | inrB
  /-- `INR C` (R153) -/
  | inrC
  /-- `INR D` (R153) -/
  | inrD
  /-- `INR E` (R153) -/
  | inrE
  /-- `INR H` (R153) -/
  | inrH
  /-- `INR L` (R153) -/
  | inrL
  /-- `INR A` (R153) -/
  | inrA
  /-- `INR M` (R154) -/
  | inrM
  /-- `DCR B` (R155) -/
  | dcrB
  /-- `DCR C` (R155) -/
  | dcrC
  /-- `DCR D` (R155) -/
  | dcrD
  /-- `DCR E` (R155) -/
  | dcrE
  /-- `DCR H` (R155) -/
  | dcrH
  /-- `DCR L` (R155) -/
  | dcrL
  /-- `DCR A` (R155) -/
  | dcrA
  /-- `DCR M` (R156) -/
  | dcrM
  /-- `DAA` (R157) -/
  | daa
  /-- `CMA` (R158) -/
  | cma
  /-- `CMC` (R159) -/
  | cmc
  /-- `STC` (R160) -/
  | stc
  /-- `NOP` (R161) -/
  | nop
  /-- `HLT` (R162) -/
  | hlt
  /-- `DI` (R163) -/
  | di
  /-- `EI` (R164) -/
  | ei
  /-- `DAD B` (R165) -/
  | dadB
  /-- `DAD D` (R166) -/
  | dadD
  /-- `DAD H` (R167) -/
  | dadH
  /-- `DAD SP` (R168) -/
  | dadSP
  /-- `INX B` (R169) -/
  | inxB
  /-- `INX D` (R170) -/
  | inxD
  /-- `INX H` (R171) -/
  | inxH
  /-- `INX SP` (R172) -/
  | inxSP
  /-- `DCX B` (R173) -/
  | dcxB
  /-- `DCX D` (R174) -/
  | dcxD
  /-- `DCX H` (R175) -/
  | dcxH
  /-- `DCX SP` (R176) -/
  | dcxSP
  /-- `RLC` (R177) -/
  | rlc
  /-- `RAL` (R178) -/
  | ral
  /-- `RRC` (R179) -/
  | rrc
  /-- `RAR` (R180) -/
  | rar
  /-- `JMP B3B2` (R181) -/
  | jmp (a16 : Word)
  /-- `JNZ B3B2` (R182) -/
  | jnz (a16 : Word)
  /-- `JZ B3B2` (R183) -/
  | jz (a16 : Word)
  /-- `JNC B3B2` (R184) -/
  | jnc (a16 : Word)
  /-- `JC B3B2` (R185) -/
  | jc (a16 : Word)
  /-- `JPO B3B2` (R186) -/
  | jpo (a16 : Word)
  /-- `JPE B3B2` (R187) -/
  | jpe (a16 : Word)
  /-- `JP B3B2` (R188) -/
  | jp (a16 : Word)
  /-- `JM B3B2` (R189) -/
  | jm (a16 : Word)
  /-- `PCHL` (R190) -/
  | pchl
  /-- `CALL B3B2` (R191) -/
  | call (a16 : Word)
  /-- `CNZ B3B2` (R192) -/
  | cnz (a16 : Word)
  /-- `CZ B3B2` (R193) -/
  | cz (a16 : Word)
  /-- `CNC B3B2` (R194) -/
  | cnc (a16 : Word)
  /-- `CC B3B2` (R195) -/
  | cc (a16 : Word)
  /-- `CPO B3B2` (R196) -/
  | cpo (a16 : Word)
  /-- `CPE B3B2` (R197) -/
  | cpe (a16 : Word)
  /-- `CP B3B2` (R198) -/
  | cp (a16 : Word)
  /-- `CM B3B2` (R199) -/
  | cm (a16 : Word)
  /-- `RET` (R200) -/
  | ret
  /-- `RNZ` (R201) -/
  | rnz
  /-- `RZ` (R202) -/
  | rz
  /-- `RNC` (R203) -/
  | rnc
  /-- `RC` (R204) -/
  | rc
  /-- `RPO` (R205) -/
  | rpo
  /-- `RPE` (R206) -/
  | rpe
  /-- `RP` (R207) -/
  | rp
  /-- `RM` (R208) -/
  | rm
  /-- `RST 0` (R209) -/
  | rst0
  /-- `RST 1` (R209) -/
  | rst1
  /-- `RST 2` (R209) -/
  | rst2
  /-- `RST 3` (R209) -/
  | rst3
  /-- `RST 4` (R209) -/
  | rst4
  /-- `RST 5` (R209) -/
  | rst5
  /-- `RST 6` (R209) -/
  | rst6
  /-- `RST 7` (R209) -/
  | rst7
  /-- `IN B2` (R210) -/
  | inPort (port : Byte)
  /-- `OUT B2` (R211) -/
  | outPort (port : Byte)
  deriving DecidableEq, Repr

/-- The instructions with their operand fields (R63), one constructor for each shape of the manual's entries. -/
inductive Form
  | mov (dst src : Reg)
  | movRM (dst : Reg)
  | movMR (src : Reg)
  | mvi (dst : Reg) (d8 : Byte)
  | mviM (d8 : Byte)
  | ldax (p : PairIx)
  | lda (a16 : Word)
  | stax (p : PairIx)
  | sta (a16 : Word)
  | lxi (p : PairSp) (d16 : Word)
  | lhld (a16 : Word)
  | shld (a16 : Word)
  | sphl
  | push (p : Pair)
  | pushPsw
  | pop (p : Pair)
  | popPsw
  | xchg
  | xthl
  | alu (op : AluOp) (src : Operand)
  | inr (r : Reg)
  | inrM
  | dcr (r : Reg)
  | dcrM
  | daa
  | cma
  | cmc
  | stc
  | nop
  | hlt
  | di
  | ei
  | dad (p : PairSp)
  | inx (p : PairSp)
  | dcx (p : PairSp)
  | rlc
  | ral
  | rrc
  | rar
  | jmp (a16 : Word)
  | jcond (cc : Cond) (a16 : Word)
  | pchl
  | call (a16 : Word)
  | ccond (cc : Cond) (a16 : Word)
  | ret
  | rcond (cc : Cond)
  | rst (n : Fin 8)
  | inPort (port : Byte)
  | outPort (port : Byte)
  deriving DecidableEq, Repr

/-- The fields of an instruction. -/
def Instr.form : Instr → Form
  | .movBB => .mov .b .b
  | .movBC => .mov .b .c
  | .movBD => .mov .b .d
  | .movBE => .mov .b .e
  | .movBH => .mov .b .h
  | .movBL => .mov .b .l
  | .movBA => .mov .b .a
  | .movCB => .mov .c .b
  | .movCC => .mov .c .c
  | .movCD => .mov .c .d
  | .movCE => .mov .c .e
  | .movCH => .mov .c .h
  | .movCL => .mov .c .l
  | .movCA => .mov .c .a
  | .movDB => .mov .d .b
  | .movDC => .mov .d .c
  | .movDD => .mov .d .d
  | .movDE => .mov .d .e
  | .movDH => .mov .d .h
  | .movDL => .mov .d .l
  | .movDA => .mov .d .a
  | .movEB => .mov .e .b
  | .movEC => .mov .e .c
  | .movED => .mov .e .d
  | .movEE => .mov .e .e
  | .movEH => .mov .e .h
  | .movEL => .mov .e .l
  | .movEA => .mov .e .a
  | .movHB => .mov .h .b
  | .movHC => .mov .h .c
  | .movHD => .mov .h .d
  | .movHE => .mov .h .e
  | .movHH => .mov .h .h
  | .movHL => .mov .h .l
  | .movHA => .mov .h .a
  | .movLB => .mov .l .b
  | .movLC => .mov .l .c
  | .movLD => .mov .l .d
  | .movLE => .mov .l .e
  | .movLH => .mov .l .h
  | .movLL => .mov .l .l
  | .movLA => .mov .l .a
  | .movAB => .mov .a .b
  | .movAC => .mov .a .c
  | .movAD => .mov .a .d
  | .movAE => .mov .a .e
  | .movAH => .mov .a .h
  | .movAL => .mov .a .l
  | .movAA => .mov .a .a
  | .movBM => .movRM .b
  | .movCM => .movRM .c
  | .movDM => .movRM .d
  | .movEM => .movRM .e
  | .movHM => .movRM .h
  | .movLM => .movRM .l
  | .movAM => .movRM .a
  | .movMB => .movMR .b
  | .movMC => .movMR .c
  | .movMD => .movMR .d
  | .movME => .movMR .e
  | .movMH => .movMR .h
  | .movML => .movMR .l
  | .movMA => .movMR .a
  | .mviB d => .mvi .b d
  | .mviC d => .mvi .c d
  | .mviD d => .mvi .d d
  | .mviE d => .mvi .e d
  | .mviH d => .mvi .h d
  | .mviL d => .mvi .l d
  | .mviA d => .mvi .a d
  | .mviM d => .mviM d
  | .ldaxB => .ldax .bc
  | .ldaxD => .ldax .de
  | .lda a => .lda a
  | .staxB => .stax .bc
  | .staxD => .stax .de
  | .sta a => .sta a
  | .lxiB a => .lxi .bc a
  | .lxiD a => .lxi .de a
  | .lxiH a => .lxi .hl a
  | .lxiSP a => .lxi .sp a
  | .lhld a => .lhld a
  | .shld a => .shld a
  | .sphl => .sphl
  | .pushB => .push .bc
  | .pushD => .push .de
  | .pushH => .push .hl
  | .pushPSW => .pushPsw
  | .popB => .pop .bc
  | .popD => .pop .de
  | .popH => .pop .hl
  | .popPSW => .popPsw
  | .xchg => .xchg
  | .xthl => .xthl
  | .addB => .alu .add (.reg .b)
  | .addC => .alu .add (.reg .c)
  | .addD => .alu .add (.reg .d)
  | .addE => .alu .add (.reg .e)
  | .addH => .alu .add (.reg .h)
  | .addL => .alu .add (.reg .l)
  | .addA => .alu .add (.reg .a)
  | .adi d => .alu .add (.imm d)
  | .addM => .alu .add .mem
  | .adcB => .alu .adc (.reg .b)
  | .adcC => .alu .adc (.reg .c)
  | .adcD => .alu .adc (.reg .d)
  | .adcE => .alu .adc (.reg .e)
  | .adcH => .alu .adc (.reg .h)
  | .adcL => .alu .adc (.reg .l)
  | .adcA => .alu .adc (.reg .a)
  | .aci d => .alu .adc (.imm d)
  | .adcM => .alu .adc .mem
  | .subB => .alu .sub (.reg .b)
  | .subC => .alu .sub (.reg .c)
  | .subD => .alu .sub (.reg .d)
  | .subE => .alu .sub (.reg .e)
  | .subH => .alu .sub (.reg .h)
  | .subL => .alu .sub (.reg .l)
  | .subA => .alu .sub (.reg .a)
  | .sui d => .alu .sub (.imm d)
  | .subM => .alu .sub .mem
  | .sbbB => .alu .sbb (.reg .b)
  | .sbbC => .alu .sbb (.reg .c)
  | .sbbD => .alu .sbb (.reg .d)
  | .sbbE => .alu .sbb (.reg .e)
  | .sbbH => .alu .sbb (.reg .h)
  | .sbbL => .alu .sbb (.reg .l)
  | .sbbA => .alu .sbb (.reg .a)
  | .sbi d => .alu .sbb (.imm d)
  | .sbbM => .alu .sbb .mem
  | .anaB => .alu .ana (.reg .b)
  | .anaC => .alu .ana (.reg .c)
  | .anaD => .alu .ana (.reg .d)
  | .anaE => .alu .ana (.reg .e)
  | .anaH => .alu .ana (.reg .h)
  | .anaL => .alu .ana (.reg .l)
  | .anaA => .alu .ana (.reg .a)
  | .ani d => .alu .ana (.imm d)
  | .anaM => .alu .ana .mem
  | .oraB => .alu .ora (.reg .b)
  | .oraC => .alu .ora (.reg .c)
  | .oraD => .alu .ora (.reg .d)
  | .oraE => .alu .ora (.reg .e)
  | .oraH => .alu .ora (.reg .h)
  | .oraL => .alu .ora (.reg .l)
  | .oraA => .alu .ora (.reg .a)
  | .ori d => .alu .ora (.imm d)
  | .oraM => .alu .ora .mem
  | .xraB => .alu .xra (.reg .b)
  | .xraC => .alu .xra (.reg .c)
  | .xraD => .alu .xra (.reg .d)
  | .xraE => .alu .xra (.reg .e)
  | .xraH => .alu .xra (.reg .h)
  | .xraL => .alu .xra (.reg .l)
  | .xraA => .alu .xra (.reg .a)
  | .xri d => .alu .xra (.imm d)
  | .xraM => .alu .xra .mem
  | .cmpB => .alu .cmp (.reg .b)
  | .cmpC => .alu .cmp (.reg .c)
  | .cmpD => .alu .cmp (.reg .d)
  | .cmpE => .alu .cmp (.reg .e)
  | .cmpH => .alu .cmp (.reg .h)
  | .cmpL => .alu .cmp (.reg .l)
  | .cmpA => .alu .cmp (.reg .a)
  | .cpi d => .alu .cmp (.imm d)
  | .cmpM => .alu .cmp .mem
  | .inrB => .inr .b
  | .inrC => .inr .c
  | .inrD => .inr .d
  | .inrE => .inr .e
  | .inrH => .inr .h
  | .inrL => .inr .l
  | .inrA => .inr .a
  | .inrM => .inrM
  | .dcrB => .dcr .b
  | .dcrC => .dcr .c
  | .dcrD => .dcr .d
  | .dcrE => .dcr .e
  | .dcrH => .dcr .h
  | .dcrL => .dcr .l
  | .dcrA => .dcr .a
  | .dcrM => .dcrM
  | .daa => .daa
  | .cma => .cma
  | .cmc => .cmc
  | .stc => .stc
  | .nop => .nop
  | .hlt => .hlt
  | .di => .di
  | .ei => .ei
  | .dadB => .dad .bc
  | .dadD => .dad .de
  | .dadH => .dad .hl
  | .dadSP => .dad .sp
  | .inxB => .inx .bc
  | .inxD => .inx .de
  | .inxH => .inx .hl
  | .inxSP => .inx .sp
  | .dcxB => .dcx .bc
  | .dcxD => .dcx .de
  | .dcxH => .dcx .hl
  | .dcxSP => .dcx .sp
  | .rlc => .rlc
  | .ral => .ral
  | .rrc => .rrc
  | .rar => .rar
  | .jmp a => .jmp a
  | .jnz a => .jcond .nz a
  | .jz a => .jcond .z a
  | .jnc a => .jcond .nc a
  | .jc a => .jcond .c a
  | .jpo a => .jcond .po a
  | .jpe a => .jcond .pe a
  | .jp a => .jcond .p a
  | .jm a => .jcond .m a
  | .pchl => .pchl
  | .call a => .call a
  | .cnz a => .ccond .nz a
  | .cz a => .ccond .z a
  | .cnc a => .ccond .nc a
  | .cc a => .ccond .c a
  | .cpo a => .ccond .po a
  | .cpe a => .ccond .pe a
  | .cp a => .ccond .p a
  | .cm a => .ccond .m a
  | .ret => .ret
  | .rnz => .rcond .nz
  | .rz => .rcond .z
  | .rnc => .rcond .nc
  | .rc => .rcond .c
  | .rpo => .rcond .po
  | .rpe => .rcond .pe
  | .rp => .rcond .p
  | .rm => .rcond .m
  | .rst0 => .rst 0
  | .rst1 => .rst 1
  | .rst2 => .rst 2
  | .rst3 => .rst 3
  | .rst4 => .rst 4
  | .rst5 => .rst 5
  | .rst6 => .rst 6
  | .rst7 => .rst 7
  | .inPort d => .inPort d
  | .outPort d => .outPort d

/-- The instruction that has the given fields. -/
def Form.instr : Form → Instr
  | .mov .b .b => .movBB
  | .mov .b .c => .movBC
  | .mov .b .d => .movBD
  | .mov .b .e => .movBE
  | .mov .b .h => .movBH
  | .mov .b .l => .movBL
  | .mov .b .a => .movBA
  | .mov .c .b => .movCB
  | .mov .c .c => .movCC
  | .mov .c .d => .movCD
  | .mov .c .e => .movCE
  | .mov .c .h => .movCH
  | .mov .c .l => .movCL
  | .mov .c .a => .movCA
  | .mov .d .b => .movDB
  | .mov .d .c => .movDC
  | .mov .d .d => .movDD
  | .mov .d .e => .movDE
  | .mov .d .h => .movDH
  | .mov .d .l => .movDL
  | .mov .d .a => .movDA
  | .mov .e .b => .movEB
  | .mov .e .c => .movEC
  | .mov .e .d => .movED
  | .mov .e .e => .movEE
  | .mov .e .h => .movEH
  | .mov .e .l => .movEL
  | .mov .e .a => .movEA
  | .mov .h .b => .movHB
  | .mov .h .c => .movHC
  | .mov .h .d => .movHD
  | .mov .h .e => .movHE
  | .mov .h .h => .movHH
  | .mov .h .l => .movHL
  | .mov .h .a => .movHA
  | .mov .l .b => .movLB
  | .mov .l .c => .movLC
  | .mov .l .d => .movLD
  | .mov .l .e => .movLE
  | .mov .l .h => .movLH
  | .mov .l .l => .movLL
  | .mov .l .a => .movLA
  | .mov .a .b => .movAB
  | .mov .a .c => .movAC
  | .mov .a .d => .movAD
  | .mov .a .e => .movAE
  | .mov .a .h => .movAH
  | .mov .a .l => .movAL
  | .mov .a .a => .movAA
  | .movRM .b => .movBM
  | .movRM .c => .movCM
  | .movRM .d => .movDM
  | .movRM .e => .movEM
  | .movRM .h => .movHM
  | .movRM .l => .movLM
  | .movRM .a => .movAM
  | .movMR .b => .movMB
  | .movMR .c => .movMC
  | .movMR .d => .movMD
  | .movMR .e => .movME
  | .movMR .h => .movMH
  | .movMR .l => .movML
  | .movMR .a => .movMA
  | .mvi .b d => .mviB d
  | .mvi .c d => .mviC d
  | .mvi .d d => .mviD d
  | .mvi .e d => .mviE d
  | .mvi .h d => .mviH d
  | .mvi .l d => .mviL d
  | .mvi .a d => .mviA d
  | .mviM d => .mviM d
  | .ldax .bc => .ldaxB
  | .ldax .de => .ldaxD
  | .lda a => .lda a
  | .stax .bc => .staxB
  | .stax .de => .staxD
  | .sta a => .sta a
  | .lxi .bc a => .lxiB a
  | .lxi .de a => .lxiD a
  | .lxi .hl a => .lxiH a
  | .lxi .sp a => .lxiSP a
  | .lhld a => .lhld a
  | .shld a => .shld a
  | .sphl => .sphl
  | .push .bc => .pushB
  | .push .de => .pushD
  | .push .hl => .pushH
  | .pushPsw => .pushPSW
  | .pop .bc => .popB
  | .pop .de => .popD
  | .pop .hl => .popH
  | .popPsw => .popPSW
  | .xchg => .xchg
  | .xthl => .xthl
  | .alu .add (.reg .b) => .addB
  | .alu .add (.reg .c) => .addC
  | .alu .add (.reg .d) => .addD
  | .alu .add (.reg .e) => .addE
  | .alu .add (.reg .h) => .addH
  | .alu .add (.reg .l) => .addL
  | .alu .add (.reg .a) => .addA
  | .alu .add (.imm d) => .adi d
  | .alu .add .mem => .addM
  | .alu .adc (.reg .b) => .adcB
  | .alu .adc (.reg .c) => .adcC
  | .alu .adc (.reg .d) => .adcD
  | .alu .adc (.reg .e) => .adcE
  | .alu .adc (.reg .h) => .adcH
  | .alu .adc (.reg .l) => .adcL
  | .alu .adc (.reg .a) => .adcA
  | .alu .adc (.imm d) => .aci d
  | .alu .adc .mem => .adcM
  | .alu .sub (.reg .b) => .subB
  | .alu .sub (.reg .c) => .subC
  | .alu .sub (.reg .d) => .subD
  | .alu .sub (.reg .e) => .subE
  | .alu .sub (.reg .h) => .subH
  | .alu .sub (.reg .l) => .subL
  | .alu .sub (.reg .a) => .subA
  | .alu .sub (.imm d) => .sui d
  | .alu .sub .mem => .subM
  | .alu .sbb (.reg .b) => .sbbB
  | .alu .sbb (.reg .c) => .sbbC
  | .alu .sbb (.reg .d) => .sbbD
  | .alu .sbb (.reg .e) => .sbbE
  | .alu .sbb (.reg .h) => .sbbH
  | .alu .sbb (.reg .l) => .sbbL
  | .alu .sbb (.reg .a) => .sbbA
  | .alu .sbb (.imm d) => .sbi d
  | .alu .sbb .mem => .sbbM
  | .alu .ana (.reg .b) => .anaB
  | .alu .ana (.reg .c) => .anaC
  | .alu .ana (.reg .d) => .anaD
  | .alu .ana (.reg .e) => .anaE
  | .alu .ana (.reg .h) => .anaH
  | .alu .ana (.reg .l) => .anaL
  | .alu .ana (.reg .a) => .anaA
  | .alu .ana (.imm d) => .ani d
  | .alu .ana .mem => .anaM
  | .alu .ora (.reg .b) => .oraB
  | .alu .ora (.reg .c) => .oraC
  | .alu .ora (.reg .d) => .oraD
  | .alu .ora (.reg .e) => .oraE
  | .alu .ora (.reg .h) => .oraH
  | .alu .ora (.reg .l) => .oraL
  | .alu .ora (.reg .a) => .oraA
  | .alu .ora (.imm d) => .ori d
  | .alu .ora .mem => .oraM
  | .alu .xra (.reg .b) => .xraB
  | .alu .xra (.reg .c) => .xraC
  | .alu .xra (.reg .d) => .xraD
  | .alu .xra (.reg .e) => .xraE
  | .alu .xra (.reg .h) => .xraH
  | .alu .xra (.reg .l) => .xraL
  | .alu .xra (.reg .a) => .xraA
  | .alu .xra (.imm d) => .xri d
  | .alu .xra .mem => .xraM
  | .alu .cmp (.reg .b) => .cmpB
  | .alu .cmp (.reg .c) => .cmpC
  | .alu .cmp (.reg .d) => .cmpD
  | .alu .cmp (.reg .e) => .cmpE
  | .alu .cmp (.reg .h) => .cmpH
  | .alu .cmp (.reg .l) => .cmpL
  | .alu .cmp (.reg .a) => .cmpA
  | .alu .cmp (.imm d) => .cpi d
  | .alu .cmp .mem => .cmpM
  | .inr .b => .inrB
  | .inr .c => .inrC
  | .inr .d => .inrD
  | .inr .e => .inrE
  | .inr .h => .inrH
  | .inr .l => .inrL
  | .inr .a => .inrA
  | .inrM => .inrM
  | .dcr .b => .dcrB
  | .dcr .c => .dcrC
  | .dcr .d => .dcrD
  | .dcr .e => .dcrE
  | .dcr .h => .dcrH
  | .dcr .l => .dcrL
  | .dcr .a => .dcrA
  | .dcrM => .dcrM
  | .daa => .daa
  | .cma => .cma
  | .cmc => .cmc
  | .stc => .stc
  | .nop => .nop
  | .hlt => .hlt
  | .di => .di
  | .ei => .ei
  | .dad .bc => .dadB
  | .dad .de => .dadD
  | .dad .hl => .dadH
  | .dad .sp => .dadSP
  | .inx .bc => .inxB
  | .inx .de => .inxD
  | .inx .hl => .inxH
  | .inx .sp => .inxSP
  | .dcx .bc => .dcxB
  | .dcx .de => .dcxD
  | .dcx .hl => .dcxH
  | .dcx .sp => .dcxSP
  | .rlc => .rlc
  | .ral => .ral
  | .rrc => .rrc
  | .rar => .rar
  | .jmp a => .jmp a
  | .jcond .nz a => .jnz a
  | .jcond .z a => .jz a
  | .jcond .nc a => .jnc a
  | .jcond .c a => .jc a
  | .jcond .po a => .jpo a
  | .jcond .pe a => .jpe a
  | .jcond .p a => .jp a
  | .jcond .m a => .jm a
  | .pchl => .pchl
  | .call a => .call a
  | .ccond .nz a => .cnz a
  | .ccond .z a => .cz a
  | .ccond .nc a => .cnc a
  | .ccond .c a => .cc a
  | .ccond .po a => .cpo a
  | .ccond .pe a => .cpe a
  | .ccond .p a => .cp a
  | .ccond .m a => .cm a
  | .ret => .ret
  | .rcond .nz => .rnz
  | .rcond .z => .rz
  | .rcond .nc => .rnc
  | .rcond .c => .rc
  | .rcond .po => .rpo
  | .rcond .pe => .rpe
  | .rcond .p => .rp
  | .rcond .m => .rm
  | .rst 0 => .rst0
  | .rst 1 => .rst1
  | .rst 2 => .rst2
  | .rst 3 => .rst3
  | .rst 4 => .rst4
  | .rst 5 => .rst5
  | .rst 6 => .rst6
  | .rst 7 => .rst7
  | .inPort d => .inPort d
  | .outPort d => .outPort d

end Sys2Proof
end

