-- ==== Sys2Proof/WellFormed.lean ====
section
/-! DEFINITION. What makes a term of the model's input well formed. -/

namespace Sys2Proof

/-- Every instruction is well formed: an operand's type has exactly the width of its field (R64), so there
is no operand value that an encoding does not admit. -/
abbrev Instr.WellFormed (_ : Instr) : Prop := True

/-- A region of `MEMORY_MAP` begins no later than it ends: regions do not wrap through `0xFFFF`. -/
def Region.wellFormed (r : Region) : Bool := decide (r.lo ≤ r.hi)

/-- A memory map is well formed when its regions are. -/
def Board.wellFormed (b : Board) : Bool := b.memMap.all Region.wellFormed

end Sys2Proof
end

