-- ==== Sys2Proof/Decode.lean ====
section
/-! DEFINITION. From instruction bytes to `Instr` and back. The map is R65, cell by cell; the lengths
are the lists of R62; the encoder is written from the encoding lines of the instruction rules. -/

namespace Sys2Proof

/-- A cell of the opcode map (R65): an instruction of format F1, F2 or F3 (R61), waiting for its operand
bytes, or `--`, a byte that no table of the manual assigns. -/
inductive Cell
  | one (i : Instr)
  | d8 (f : Byte → Instr)
  | a16 (f : Word → Instr)
  | unassigned

/-- Why bytes are no instruction. -/
inductive DecodeError
  /-- The first byte is one of the twelve that no table assigns (R67). -/
  | unassigned (op : Byte)
  /-- There are fewer bytes than the opcode needs (R62). -/
  | truncated
  deriving DecidableEq, Repr

/-- Row 0x of the opcode map (R65). -/
def opcodeRow0 : List Cell :=
  [.one .nop, .a16 .lxiB, .one .staxB, .one .inxB, .one .inrB, .one .dcrB, .d8 .mviB, .one .rlc,
   .unassigned, .one .dadB, .one .ldaxB, .one .dcxB, .one .inrC, .one .dcrC, .d8 .mviC, .one .rrc]

/-- Row 1x of the opcode map (R65). -/
def opcodeRow1 : List Cell :=
  [.unassigned, .a16 .lxiD, .one .staxD, .one .inxD, .one .inrD, .one .dcrD, .d8 .mviD, .one .ral,
   .unassigned, .one .dadD, .one .ldaxD, .one .dcxD, .one .inrE, .one .dcrE, .d8 .mviE, .one .rar]

/-- Row 2x of the opcode map (R65). -/
def opcodeRow2 : List Cell :=
  [.unassigned, .a16 .lxiH, .a16 .shld, .one .inxH, .one .inrH, .one .dcrH, .d8 .mviH, .one .daa,
   .unassigned, .one .dadH, .a16 .lhld, .one .dcxH, .one .inrL, .one .dcrL, .d8 .mviL, .one .cma]

/-- Row 3x of the opcode map (R65). -/
def opcodeRow3 : List Cell :=
  [.unassigned, .a16 .lxiSP, .a16 .sta, .one .inxSP, .one .inrM, .one .dcrM, .d8 .mviM, .one .stc,
   .unassigned, .one .dadSP, .a16 .lda, .one .dcxSP, .one .inrA, .one .dcrA, .d8 .mviA, .one .cmc]

/-- Row 4x of the opcode map (R65). -/
def opcodeRow4 : List Cell :=
  [.one .movBB, .one .movBC, .one .movBD, .one .movBE, .one .movBH, .one .movBL, .one .movBM, .one .movBA,
   .one .movCB, .one .movCC, .one .movCD, .one .movCE, .one .movCH, .one .movCL, .one .movCM, .one .movCA]

/-- Row 5x of the opcode map (R65). -/
def opcodeRow5 : List Cell :=
  [.one .movDB, .one .movDC, .one .movDD, .one .movDE, .one .movDH, .one .movDL, .one .movDM, .one .movDA,
   .one .movEB, .one .movEC, .one .movED, .one .movEE, .one .movEH, .one .movEL, .one .movEM, .one .movEA]

/-- Row 6x of the opcode map (R65). -/
def opcodeRow6 : List Cell :=
  [.one .movHB, .one .movHC, .one .movHD, .one .movHE, .one .movHH, .one .movHL, .one .movHM, .one .movHA,
   .one .movLB, .one .movLC, .one .movLD, .one .movLE, .one .movLH, .one .movLL, .one .movLM, .one .movLA]

/-- Row 7x of the opcode map (R65). -/
def opcodeRow7 : List Cell :=
  [.one .movMB, .one .movMC, .one .movMD, .one .movME, .one .movMH, .one .movML, .one .hlt, .one .movMA,
   .one .movAB, .one .movAC, .one .movAD, .one .movAE, .one .movAH, .one .movAL, .one .movAM, .one .movAA]

/-- Row 8x of the opcode map (R65). -/
def opcodeRow8 : List Cell :=
  [.one .addB, .one .addC, .one .addD, .one .addE, .one .addH, .one .addL, .one .addM, .one .addA,
   .one .adcB, .one .adcC, .one .adcD, .one .adcE, .one .adcH, .one .adcL, .one .adcM, .one .adcA]

/-- Row 9x of the opcode map (R65). -/
def opcodeRow9 : List Cell :=
  [.one .subB, .one .subC, .one .subD, .one .subE, .one .subH, .one .subL, .one .subM, .one .subA,
   .one .sbbB, .one .sbbC, .one .sbbD, .one .sbbE, .one .sbbH, .one .sbbL, .one .sbbM, .one .sbbA]

/-- Row Ax of the opcode map (R65). -/
def opcodeRowA : List Cell :=
  [.one .anaB, .one .anaC, .one .anaD, .one .anaE, .one .anaH, .one .anaL, .one .anaM, .one .anaA,
   .one .xraB, .one .xraC, .one .xraD, .one .xraE, .one .xraH, .one .xraL, .one .xraM, .one .xraA]

/-- Row Bx of the opcode map (R65). -/
def opcodeRowB : List Cell :=
  [.one .oraB, .one .oraC, .one .oraD, .one .oraE, .one .oraH, .one .oraL, .one .oraM, .one .oraA,
   .one .cmpB, .one .cmpC, .one .cmpD, .one .cmpE, .one .cmpH, .one .cmpL, .one .cmpM, .one .cmpA]

/-- Row Cx of the opcode map (R65). -/
def opcodeRowC : List Cell :=
  [.one .rnz, .one .popB, .a16 .jnz, .a16 .jmp, .a16 .cnz, .one .pushB, .d8 .adi, .one .rst0,
   .one .rz, .one .ret, .a16 .jz, .unassigned, .a16 .cz, .a16 .call, .d8 .aci, .one .rst1]

/-- Row Dx of the opcode map (R65). -/
def opcodeRowD : List Cell :=
  [.one .rnc, .one .popD, .a16 .jnc, .d8 .outPort, .a16 .cnc, .one .pushD, .d8 .sui, .one .rst2,
   .one .rc, .unassigned, .a16 .jc, .d8 .inPort, .a16 .cc, .unassigned, .d8 .sbi, .one .rst3]

/-- Row Ex of the opcode map (R65). -/
def opcodeRowE : List Cell :=
  [.one .rpo, .one .popH, .a16 .jpo, .one .xthl, .a16 .cpo, .one .pushH, .d8 .ani, .one .rst4,
   .one .rpe, .one .pchl, .a16 .jpe, .one .xchg, .a16 .cpe, .unassigned, .d8 .xri, .one .rst5]

/-- Row Fx of the opcode map (R65). -/
def opcodeRowF : List Cell :=
  [.one .rp, .one .popPSW, .a16 .jp, .one .di, .a16 .cp, .one .pushPSW, .d8 .ori, .one .rst6,
   .one .rm, .one .sphl, .a16 .jm, .one .ei, .a16 .cm, .unassigned, .d8 .cpi, .one .rst7]

/-- The opcode map (R65): row is the high hexadecimal digit. -/
def opcodeMap : List (List Cell) :=
  [opcodeRow0, opcodeRow1, opcodeRow2, opcodeRow3, opcodeRow4, opcodeRow5, opcodeRow6, opcodeRow7,
   opcodeRow8, opcodeRow9, opcodeRowA, opcodeRowB, opcodeRowC, opcodeRowD, opcodeRowE, opcodeRowF]

/-- The cell of an opcode byte. -/
def opcodeCell (op : Byte) : Cell :=
  (opcodeMap.getD (op.toNat / 16) []).getD (op.toNat % 16) .unassigned

/-- The decoder, on any bytes: the instruction they begin with and the bytes left over. The first byte
alone selects the instruction (R60); of the two operand bytes the first is the low half (R64). -/
def decode (bytes : List Byte) : Except DecodeError (Instr × List Byte) :=
  match bytes with
  | [] => .error .truncated
  | op :: rest =>
    match opcodeCell op, rest with
    | .one i, rest => .ok (i, rest)
    | .d8 f, b2 :: rest => .ok (f b2, rest)
    | .a16 f, b2 :: b3 :: rest => .ok (f (wordOf b3 b2), rest)
    | .unassigned, _ => .error (.unassigned op)
    | .d8 _, [] => .error .truncated
    | .a16 _, [] => .error .truncated
    | .a16 _, [_] => .error .truncated

/-- The twelve opcode bytes that no table assigns (R67). -/
def unassignedOpcodes : List Byte :=
  [0x08, 0x10, 0x18, 0x20, 0x28, 0x30, 0x38, 0xCB, 0xD9, 0xDD, 0xED, 0xFD]

/-- The 26 opcodes of format F3 (R62). -/
def threeByteOpcodes : List Byte :=
  [0x01, 0x11, 0x21, 0x31, 0x22, 0x2A, 0x32, 0x3A, 0xC3,
   0xC2, 0xCA, 0xD2, 0xDA, 0xE2, 0xEA, 0xF2, 0xFA, 0xCD,
   0xC4, 0xCC, 0xD4, 0xDC, 0xE4, 0xEC, 0xF4, 0xFC]

/-- The 18 opcodes of format F2 (R62). -/
def twoByteOpcodes : List Byte :=
  [0x06, 0x0E, 0x16, 0x1E, 0x26, 0x2E, 0x36, 0x3E,
   0xC6, 0xCE, 0xD6, 0xDE, 0xE6, 0xEE, 0xF6, 0xFE, 0xD3, 0xDB]

/-- How many bytes the step cycle reads after the opcode `op` is known, the opcode included (R62). For an
unassigned byte nothing more is read (R68). -/
def opLength (op : Byte) : Nat :=
  if threeByteOpcodes.contains op then 3 else if twoByteOpcodes.contains op then 2 else 1

/-- The bytes of an instruction, the one at the lowest address first (R61, R64). -/
def encode (i : Instr) : List Byte :=
  match i with
  | .movBB => [0x40#8]
  | .movBC => [0x41#8]
  | .movBD => [0x42#8]
  | .movBE => [0x43#8]
  | .movBH => [0x44#8]
  | .movBL => [0x45#8]
  | .movBA => [0x47#8]
  | .movCB => [0x48#8]
  | .movCC => [0x49#8]
  | .movCD => [0x4A#8]
  | .movCE => [0x4B#8]
  | .movCH => [0x4C#8]
  | .movCL => [0x4D#8]
  | .movCA => [0x4F#8]
  | .movDB => [0x50#8]
  | .movDC => [0x51#8]
  | .movDD => [0x52#8]
  | .movDE => [0x53#8]
  | .movDH => [0x54#8]
  | .movDL => [0x55#8]
  | .movDA => [0x57#8]
  | .movEB => [0x58#8]
  | .movEC => [0x59#8]
  | .movED => [0x5A#8]
  | .movEE => [0x5B#8]
  | .movEH => [0x5C#8]
  | .movEL => [0x5D#8]
  | .movEA => [0x5F#8]
  | .movHB => [0x60#8]
  | .movHC => [0x61#8]
  | .movHD => [0x62#8]
  | .movHE => [0x63#8]
  | .movHH => [0x64#8]
  | .movHL => [0x65#8]
  | .movHA => [0x67#8]
  | .movLB => [0x68#8]
  | .movLC => [0x69#8]
  | .movLD => [0x6A#8]
  | .movLE => [0x6B#8]
  | .movLH => [0x6C#8]
  | .movLL => [0x6D#8]
  | .movLA => [0x6F#8]
  | .movAB => [0x78#8]
  | .movAC => [0x79#8]
  | .movAD => [0x7A#8]
  | .movAE => [0x7B#8]
  | .movAH => [0x7C#8]
  | .movAL => [0x7D#8]
  | .movAA => [0x7F#8]
  | .movBM => [0x46#8]
  | .movCM => [0x4E#8]
  | .movDM => [0x56#8]
  | .movEM => [0x5E#8]
  | .movHM => [0x66#8]
  | .movLM => [0x6E#8]
  | .movAM => [0x7E#8]
  | .movMB => [0x70#8]
  | .movMC => [0x71#8]
  | .movMD => [0x72#8]
  | .movME => [0x73#8]
  | .movMH => [0x74#8]
  | .movML => [0x75#8]
  | .movMA => [0x77#8]
  | .mviB d8 => [0x06#8, d8]
  | .mviC d8 => [0x0E#8, d8]
  | .mviD d8 => [0x16#8, d8]
  | .mviE d8 => [0x1E#8, d8]
  | .mviH d8 => [0x26#8, d8]
  | .mviL d8 => [0x2E#8, d8]
  | .mviA d8 => [0x3E#8, d8]
  | .mviM d8 => [0x36#8, d8]
  | .ldaxB => [0x0A#8]
  | .ldaxD => [0x1A#8]
  | .lda a16 => [0x3A#8, loByte a16, hiByte a16]
  | .staxB => [0x02#8]
  | .staxD => [0x12#8]
  | .sta a16 => [0x32#8, loByte a16, hiByte a16]
  | .lxiB a16 => [0x01#8, loByte a16, hiByte a16]
  | .lxiD a16 => [0x11#8, loByte a16, hiByte a16]
  | .lxiH a16 => [0x21#8, loByte a16, hiByte a16]
  | .lxiSP a16 => [0x31#8, loByte a16, hiByte a16]
  | .lhld a16 => [0x2A#8, loByte a16, hiByte a16]
  | .shld a16 => [0x22#8, loByte a16, hiByte a16]
  | .sphl => [0xF9#8]
  | .pushB => [0xC5#8]
  | .pushD => [0xD5#8]
  | .pushH => [0xE5#8]
  | .pushPSW => [0xF5#8]
  | .popB => [0xC1#8]
  | .popD => [0xD1#8]
  | .popH => [0xE1#8]
  | .popPSW => [0xF1#8]
  | .xchg => [0xEB#8]
  | .xthl => [0xE3#8]
  | .addB => [0x80#8]
  | .addC => [0x81#8]
  | .addD => [0x82#8]
  | .addE => [0x83#8]
  | .addH => [0x84#8]
  | .addL => [0x85#8]
  | .addA => [0x87#8]
  | .adi d8 => [0xC6#8, d8]
  | .addM => [0x86#8]
  | .adcB => [0x88#8]
  | .adcC => [0x89#8]
  | .adcD => [0x8A#8]
  | .adcE => [0x8B#8]
  | .adcH => [0x8C#8]
  | .adcL => [0x8D#8]
  | .adcA => [0x8F#8]
  | .aci d8 => [0xCE#8, d8]
  | .adcM => [0x8E#8]
  | .subB => [0x90#8]
  | .subC => [0x91#8]
  | .subD => [0x92#8]
  | .subE => [0x93#8]
  | .subH => [0x94#8]
  | .subL => [0x95#8]
  | .subA => [0x97#8]
  | .sui d8 => [0xD6#8, d8]
  | .subM => [0x96#8]
  | .sbbB => [0x98#8]
  | .sbbC => [0x99#8]
  | .sbbD => [0x9A#8]
  | .sbbE => [0x9B#8]
  | .sbbH => [0x9C#8]
  | .sbbL => [0x9D#8]
  | .sbbA => [0x9F#8]
  | .sbi d8 => [0xDE#8, d8]
  | .sbbM => [0x9E#8]
  | .anaB => [0xA0#8]
  | .anaC => [0xA1#8]
  | .anaD => [0xA2#8]
  | .anaE => [0xA3#8]
  | .anaH => [0xA4#8]
  | .anaL => [0xA5#8]
  | .anaA => [0xA7#8]
  | .ani d8 => [0xE6#8, d8]
  | .anaM => [0xA6#8]
  | .oraB => [0xB0#8]
  | .oraC => [0xB1#8]
  | .oraD => [0xB2#8]
  | .oraE => [0xB3#8]
  | .oraH => [0xB4#8]
  | .oraL => [0xB5#8]
  | .oraA => [0xB7#8]
  | .ori d8 => [0xF6#8, d8]
  | .oraM => [0xB6#8]
  | .xraB => [0xA8#8]
  | .xraC => [0xA9#8]
  | .xraD => [0xAA#8]
  | .xraE => [0xAB#8]
  | .xraH => [0xAC#8]
  | .xraL => [0xAD#8]
  | .xraA => [0xAF#8]
  | .xri d8 => [0xEE#8, d8]
  | .xraM => [0xAE#8]
  | .cmpB => [0xB8#8]
  | .cmpC => [0xB9#8]
  | .cmpD => [0xBA#8]
  | .cmpE => [0xBB#8]
  | .cmpH => [0xBC#8]
  | .cmpL => [0xBD#8]
  | .cmpA => [0xBF#8]
  | .cpi d8 => [0xFE#8, d8]
  | .cmpM => [0xBE#8]
  | .inrB => [0x04#8]
  | .inrC => [0x0C#8]
  | .inrD => [0x14#8]
  | .inrE => [0x1C#8]
  | .inrH => [0x24#8]
  | .inrL => [0x2C#8]
  | .inrA => [0x3C#8]
  | .inrM => [0x34#8]
  | .dcrB => [0x05#8]
  | .dcrC => [0x0D#8]
  | .dcrD => [0x15#8]
  | .dcrE => [0x1D#8]
  | .dcrH => [0x25#8]
  | .dcrL => [0x2D#8]
  | .dcrA => [0x3D#8]
  | .dcrM => [0x35#8]
  | .daa => [0x27#8]
  | .cma => [0x2F#8]
  | .cmc => [0x3F#8]
  | .stc => [0x37#8]
  | .nop => [0x00#8]
  | .hlt => [0x76#8]
  | .di => [0xF3#8]
  | .ei => [0xFB#8]
  | .dadB => [0x09#8]
  | .dadD => [0x19#8]
  | .dadH => [0x29#8]
  | .dadSP => [0x39#8]
  | .inxB => [0x03#8]
  | .inxD => [0x13#8]
  | .inxH => [0x23#8]
  | .inxSP => [0x33#8]
  | .dcxB => [0x0B#8]
  | .dcxD => [0x1B#8]
  | .dcxH => [0x2B#8]
  | .dcxSP => [0x3B#8]
  | .rlc => [0x07#8]
  | .ral => [0x17#8]
  | .rrc => [0x0F#8]
  | .rar => [0x1F#8]
  | .jmp a16 => [0xC3#8, loByte a16, hiByte a16]
  | .jnz a16 => [0xC2#8, loByte a16, hiByte a16]
  | .jz a16 => [0xCA#8, loByte a16, hiByte a16]
  | .jnc a16 => [0xD2#8, loByte a16, hiByte a16]
  | .jc a16 => [0xDA#8, loByte a16, hiByte a16]
  | .jpo a16 => [0xE2#8, loByte a16, hiByte a16]
  | .jpe a16 => [0xEA#8, loByte a16, hiByte a16]
  | .jp a16 => [0xF2#8, loByte a16, hiByte a16]
  | .jm a16 => [0xFA#8, loByte a16, hiByte a16]
  | .pchl => [0xE9#8]
  | .call a16 => [0xCD#8, loByte a16, hiByte a16]
  | .cnz a16 => [0xC4#8, loByte a16, hiByte a16]
  | .cz a16 => [0xCC#8, loByte a16, hiByte a16]
  | .cnc a16 => [0xD4#8, loByte a16, hiByte a16]
  | .cc a16 => [0xDC#8, loByte a16, hiByte a16]
  | .cpo a16 => [0xE4#8, loByte a16, hiByte a16]
  | .cpe a16 => [0xEC#8, loByte a16, hiByte a16]
  | .cp a16 => [0xF4#8, loByte a16, hiByte a16]
  | .cm a16 => [0xFC#8, loByte a16, hiByte a16]
  | .ret => [0xC9#8]
  | .rnz => [0xC0#8]
  | .rz => [0xC8#8]
  | .rnc => [0xD0#8]
  | .rc => [0xD8#8]
  | .rpo => [0xE0#8]
  | .rpe => [0xE8#8]
  | .rp => [0xF0#8]
  | .rm => [0xF8#8]
  | .rst0 => [0xC7#8]
  | .rst1 => [0xCF#8]
  | .rst2 => [0xD7#8]
  | .rst3 => [0xDF#8]
  | .rst4 => [0xE7#8]
  | .rst5 => [0xEF#8]
  | .rst6 => [0xF7#8]
  | .rst7 => [0xFF#8]
  | .inPort d8 => [0xDB#8, d8]
  | .outPort d8 => [0xD3#8, d8]

/-- The first `n` bytes of a number that spec/opcode_table.json numbers with bit 0 in the first byte. -/
def bytesOfNat (n w : Nat) : List Byte :=
  match n with
  | 0 => []
  | n + 1 => BitVec.ofNat 8 w :: bytesOfNat n (w / 256)

/-- An instruction of `nbits` bits laid out as memory holds it, up to the longest instruction (three
bytes), every bit above `nbits` zero. -/
def tableBytes (nbits w : Nat) : List Byte :=
  bytesOfNat 3 (w % 2 ^ nbits)

/-- What the decoder reads from the table's word. -/
def decodeTableWord (nbits w : Nat) : Option Instr :=
  match decode (tableBytes nbits w) with
  | .ok (i, _) => some i
  | .error _ => none

end Sys2Proof
end

