-- ==== Sys2Proof/Machine/State.lean ====
section
/-! DEFINITION. The state of the machine as plain data, the ways a step can stop, and the state after reset. -/

namespace Sys2Proof.Machine

/-- The seven general registers (R13); no pair has storage of its own (R15). -/
structure Regs where
  b : Byte
  c : Byte
  d : Byte
  e : Byte
  h : Byte
  l : Byte
  a : Byte
  deriving DecidableEq, Repr

/-- The five flags (R20 to R25). Bits 5, 3, 1 of the flag byte are not state (D6). -/
structure Flags where
  s : Bool
  z : Bool
  h : Bool
  p : Bool
  c : Bool
  deriving DecidableEq, Repr

/-- Memory as a list of address and byte, in the canonical form that `Memory.wf` states. -/
abbrev Memory := List Host.Cell

/-- What a requester supplies when its interrupt is accepted (R221, R224, U9). -/
inductive Supply
  /-- The restart instruction RST n, `n = INT_SOURCE`. -/
  | rst (n : Fin 8)
  /-- The bytes of any other instruction. -/
  | other (code : List Byte)
  deriving DecidableEq, Repr

/-- What the environment asserts at one step boundary (R10, R29): the reset signal, and the INT signal
together with what the requester supplies. -/
structure Pins where
  reset : Bool
  int : Option Supply
  deriving DecidableEq, Repr

/-- Nothing asserted. -/
def Pins.idle : Pins := { reset := false, int := none }

/-- The state. The fields down to `mem` are the spec's (10_state section 1); `board` holds the parameters
of R6, and the last four are the environment's side of the doors of R260 and the index of the draws. -/
structure State where
  regs : Regs
  flags : Flags
  /-- The stack pointer (R18). -/
  sp : Word
  /-- The program counter (R19). -/
  pc : Word
  /-- `INTE` (R26). -/
  inte : Bool
  /-- `EI_PEND` (R27). -/
  eiPend : Bool
  /-- `HALTED` (R28). -/
  halted : Bool
  /-- The 65536 bytes of memory (R40). -/
  mem : Memory
  /-- The parameters (R6), constant while the machine runs. -/
  board : Board
  /-- What is asserted at the coming boundaries, the next one first; after its end nothing is. -/
  schedule : List Pins
  /-- The answers the environment has ready for the coming `IoRead`s, the next one first. -/
  ioIn : List Byte
  /-- The events handed to the environment (R211), oldest first. -/
  output : List BusEvent
  /-- The index of the free values that the current step draws. -/
  tick : Nat
  deriving DecidableEq, Repr

/-- The one way a step faults. -/
inductive Fault
  /-- `IllegalOpcode(op)` (R68, D5): raised by the fetch of one of the twelve unassigned bytes. Nothing
  changes and PC stays at the byte. Safe: the manual gives these bytes no meaning. -/
  | illegalOpcode (op : Byte)
  deriving DecidableEq, Repr

/-- The ways a step is refused. -/
inductive Refusal
  /-- Raised by `exec` for an instruction that has no meaning yet. Safe. No arm raises it. -/
  | notModelled (mnemonic : String)
  /-- Raised by the acceptance of an interrupt whose requester supplies an instruction other than RST n
  (R224, U9). Safe: such a requester is outside the model. -/
  | interruptNotRst (code : List Byte)
  deriving DecidableEq, Repr

/-- What an instruction's meaning answers. -/
abbrev Result := Host.Outcome State Fault Refusal

/-- The machine right after reset, as R32 says. A, B to L, SP, the flags and memory have no value in the
spec (D4): the zeros here are the model's (log 2, log 4). -/
def State.reset : State :=
  { regs := { b := 0#8, c := 0#8, d := 0#8, e := 0#8, h := 0#8, l := 0#8, a := 0#8 }
    flags := { s := false, z := false, h := false, p := false, c := false }
    sp := 0x0000#16
    pc := Board.default.resetPc
    inte := false
    eiPend := false
    halted := false
    mem := []
    board := Board.default
    schedule := []
    ioIn := []
    output := []
    tick := 0 }

end Sys2Proof.Machine
end

