-- ==== Sys2Proof/Machine/Flags.lean ====
section
/-! DEFINITION. The flag byte and every function of the instruction rules that computes flags, each as a
function of the old flags and the operands that answers the result and the new flags. -/

namespace Sys2Proof.Machine

/-- `parity(v)` (R8, R23): whether the number of 1 bits is even. -/
def parity (v : Byte) : Bool := ((List.range 8).countP fun k => v.getLsbD k) % 2 == 0

/-- A bit as the wider vector `zext_N` of R8 makes it. -/
def bitOf (n : Nat) (b : Bool) : BitVec n := (BitVec.ofBool b).setWidth n

/-- Bits 3 to 0 of a byte. -/
def loNibble (v : Byte) : BitVec 4 := v.extractLsb' 0 4

/-- Bits 7 to 4 of a byte. -/
def hiNibble (v : Byte) : BitVec 4 := v.extractLsb' 4 4

/-- The flag byte F with the layout of R20; `u` holds the values of the unused bits 5, 3 and 1. -/
def flagByte (f : Flags) (u : BitVec 3) : Byte :=
  BitVec.ofBool f.s ++ BitVec.ofBool f.z ++ BitVec.ofBool (u.getLsbD 2) ++ BitVec.ofBool f.h
    ++ BitVec.ofBool (u.getLsbD 1) ++ BitVec.ofBool f.p ++ BitVec.ofBool (u.getLsbD 0) ++ BitVec.ofBool f.c

/-- The five flags that a byte loads into F; bits 5, 3 and 1 are discarded (R20, R126). -/
def flagsOfByte (v : Byte) : Flags :=
  { s := v.getLsbD 7, z := v.getLsbD 6, h := v.getLsbD 4, p := v.getLsbD 2, c := v.getLsbD 0 }

/-- `zsp_arith` (R86): Z, S and, on the 8080 only, P. -/
def zspArith (var : Variant) (f : Flags) (v : Byte) : Flags :=
  { f with
    z := v == 0x00#8
    s := v.getLsbD 7
    p := match var with
      | .i8080 => parity v
      | .mycpu80 => f.p }

/-- `add8` (R84), used by ADD, ADI, ADC, ACI. -/
def add8 (var : Variant) (f : Flags) (a b : Byte) (cin : Bool) : Byte × Flags :=
  let t : BitVec 9 := a.setWidth 9 + b.setWidth 9 + bitOf 9 cin
  let n : BitVec 5 := (loNibble a).setWidth 5 + (loNibble b).setWidth 5 + bitOf 5 cin
  let v : Byte := t.setWidth 8
  (v, zspArith var { f with c := t.getLsbD 8, h := n.getLsbD 4 } v)

/-- `sub8` (R85), used by SUB, SUI, SBB, SBI, CMP, CPI: C and H are set on a borrow. -/
def sub8 (var : Variant) (f : Flags) (a b : Byte) (bin : Bool) : Byte × Flags :=
  let t : BitVec 9 := a.setWidth 9 - b.setWidth 9 - bitOf 9 bin
  let v : Byte := t.setWidth 8
  let half : Bool := decide ((loNibble a).toNat < (loNibble b).toNat + bin.toNat)
  (v, zspArith var { f with c := t.getLsbD 8, h := half } v)

/-- `logic8` (R87), used by ANA, ORA, XRA and their immediate forms: P on both machines, C and H cleared. -/
def logic8 (v : Byte) : Byte × Flags :=
  (v, { z := v == 0x00#8, s := v.getLsbD 7, p := parity v, c := false, h := false })

/-- `inr8` (R89): C is left alone. -/
def inr8 (var : Variant) (f : Flags) (a : Byte) : Byte × Flags :=
  let v := a + 1#8
  (v, zspArith var { f with h := loNibble a == 0xF#4 } v)

/-- `dcr8` (R89): C is left alone. -/
def dcr8 (var : Variant) (f : Flags) (a : Byte) : Byte × Flags :=
  let v := a - 1#8
  (v, zspArith var { f with h := loNibble a == 0x0#4 } v)

/-- `dad16` (R91): C is the carry out of bit 15, H the carry out of bit 11; S, Z, P are left alone. -/
def dad16 (f : Flags) (a b : Word) : Word × Flags :=
  let t : BitVec 17 := a.setWidth 17 + b.setWidth 17
  let n : BitVec 13 := (a.extractLsb' 0 12).setWidth 13 + (b.extractLsb' 0 12).setWidth 13
  (t.setWidth 16, { f with c := t.getLsbD 16, h := n.getLsbD 12 })

/-- The correction DAA adds (R157): 06 for the low digit, 60 for the high digit. -/
def daaCorr (f : Flags) (a : Byte) : Byte :=
  let lo := (loNibble a).toNat
  let hi := (hiNibble a).toNat
  (if f.h || decide (9 < lo) then 0x06#8 else 0x00#8)
    + (if f.c || decide (9 < hi) || (decide (9 ≤ hi) && decide (9 < lo)) then 0x60#8 else 0x00#8)

/-- `DAA` (R157), the algorithm the spec adopts (D9): C is set by the high correction and never cleared. -/
def daa8 (daaH : DaaH) (f : Flags) (a : Byte) : Byte × Flags :=
  let lo := (loNibble a).toNat
  let hi := (hiNibble a).toNat
  let corr := daaCorr f a
  let v := a + corr
  (v, { z := v == 0x00#8
        s := v.getLsbD 7
        p := parity v
        c := f.c || decide (9 < hi) || (decide (9 ≤ hi) && decide (9 < lo))
        h := match daaH with
          | .unchanged => f.h
          | .carry3 => ((loNibble a).setWidth 5 + (loNibble corr).setWidth 5 : BitVec 5).getLsbD 4 })

/-- `RLC` (R177): bit 7 to bit 0 and to C. -/
def rlc8 (f : Flags) (a : Byte) : Byte × Flags :=
  (a.extractLsb' 0 7 ++ a.extractLsb' 7 1, { f with c := a.getLsbD 7 })

/-- `RAL` (R178): the nine bits C, A one place to the left. -/
def ral8 (f : Flags) (a : Byte) : Byte × Flags :=
  (a.extractLsb' 0 7 ++ BitVec.ofBool f.c, { f with c := a.getLsbD 7 })

/-- `RRC` (R179): bit 0 to bit 7 and to C. -/
def rrc8 (f : Flags) (a : Byte) : Byte × Flags :=
  (a.extractLsb' 0 1 ++ a.extractLsb' 1 7, { f with c := a.getLsbD 0 })

/-- `RAR` (R180): the nine bits C, A one place to the right. -/
def rar8 (f : Flags) (a : Byte) : Byte × Flags :=
  (BitVec.ofBool f.c ++ a.extractLsb' 1 7, { f with c := a.getLsbD 0 })

/-- The accumulator operation `op` on A = `a` and the second operand `b` (R83, R88): the result and the
flags. CMP computes what SUB computes; that it does not write A is `aluKeepsA`. -/
def aluCompute (var : Variant) (op : AluOp) (f : Flags) (a b : Byte) : Byte × Flags :=
  match op with
  | .add => add8 var f a b false
  | .adc => add8 var f a b f.c
  | .sub => sub8 var f a b false
  | .sbb => sub8 var f a b f.c
  | .ana => logic8 (a &&& b)
  | .xra => logic8 (a ^^^ b)
  | .ora => logic8 (a ||| b)
  | .cmp => sub8 var f a b false

/-- Whether the operation discards its result (R150). -/
def aluKeepsA (op : AluOp) : Bool :=
  match op with
  | .cmp => true
  | .add | .adc | .sub | .sbb | .ana | .xra | .ora => false

end Sys2Proof.Machine
end

