-- ==== Sys2Proof/Machine/Memory.lean ====
section
/-! DEFINITION. Memory as data: what one byte reads as, how one byte is written, and the canonical form
that makes equal memories equal lists. -/

namespace Sys2Proof.Machine

/-- What a byte that nothing has written reads as. DESIGN CHOICE (log 4): the spec gives no value (D4, U4). -/
def Memory.unlisted : Byte := 0x00#8

/-- The byte at address `a`. -/
def Memory.read (m : Memory) (a : Nat) : Byte :=
  match m with
  | [] => Memory.unlisted
  | (x, v) :: m => if a = x then v else Memory.read m a

/-- An entry for `v` at `a` in front of `m`, unless `v` is what an unlisted address reads as. -/
def Memory.enter (a : Nat) (v : Byte) (m : Memory) : Memory :=
  if v = Memory.unlisted then m else (a, v) :: m

/-- Memory after the byte `v` is stored at address `a`. -/
def Memory.write (m : Memory) (a : Nat) (v : Byte) : Memory :=
  match m with
  | [] => Memory.enter a v []
  | (x, w) :: m =>
    if a < x then Memory.enter a v ((x, w) :: m)
    else if a = x then Memory.enter a v m
    else (x, w) :: Memory.write m a v

/-- The canonical form: addresses below 65536 and strictly rising, and no entry that only repeats what an
unlisted address reads as. -/
abbrev Memory.wf (m : Memory) : Prop :=
  (∀ x ∈ m, x.1 < 65536 ∧ x.2 ≠ Memory.unlisted) ∧ m.Pairwise (fun x y => x.1 < y.1)

/-- The bytes `bs` stored at `a` and the addresses after it, modulo 65536. -/
def Memory.writeBytes (m : Memory) (a : Word) (bs : List Byte) : Memory :=
  match bs with
  | [] => m
  | v :: bs => Memory.writeBytes (m.write a.toNat v) (a + 1#16) bs

end Sys2Proof.Machine
end

