-- ==== Sys2Proof/Machine/Operands.lean ====
section
/-! DEFINITION. The operand forms: registers, pairs, conditions, and memory through the memory map. -/

namespace Sys2Proof.Machine

/-- `x[r]` (R8). -/
def State.reg (s : State) (r : Reg) : Byte :=
  match r with
  | .b => s.regs.b
  | .c => s.regs.c
  | .d => s.regs.d
  | .e => s.regs.e
  | .h => s.regs.h
  | .l => s.regs.l
  | .a => s.regs.a

/-- `x[r] <- v` (R8). -/
def State.setReg (s : State) (r : Reg) (v : Byte) : State :=
  match r with
  | .b => { s with regs := { s.regs with b := v } }
  | .c => { s with regs := { s.regs with c := v } }
  | .d => { s with regs := { s.regs with d := v } }
  | .e => { s with regs := { s.regs with e := v } }
  | .h => { s with regs := { s.regs with h := v } }
  | .l => { s with regs := { s.regs with l := v } }
  | .a => { s with regs := { s.regs with a := v } }

/-- The number a register carries in the encoding (R13). -/
def regCode (r : Reg) : BitVec 3 :=
  match r with
  | .b => 0#3
  | .c => 1#3
  | .d => 2#3
  | .e => 3#3
  | .h => 4#3
  | .l => 5#3
  | .a => 7#3

/-- The high register of a pair (R15). -/
def pairHi (p : Pair) : Reg :=
  match p with
  | .bc => .b
  | .de => .d
  | .hl => .h

/-- The low register of a pair (R15). -/
def pairLo (p : Pair) : Reg :=
  match p with
  | .bc => .c
  | .de => .e
  | .hl => .l

/-- `rp[p]` (R8, R15). -/
def State.pair (s : State) (p : Pair) : Word := wordOf (s.reg (pairHi p)) (s.reg (pairLo p))

/-- `rp[p] <- v` (R8, R15). -/
def State.setPair (s : State) (p : Pair) (v : Word) : State :=
  (s.setReg (pairHi p) (hiByte v)).setReg (pairLo p) (loByte v)

/-- A pair or SP, as the field `pp` of LXI, DAD, INX, DCX names it (R63). -/
def State.pairSp (s : State) (p : PairSp) : Word :=
  match p with
  | .bc => s.pair .bc
  | .de => s.pair .de
  | .hl => s.pair .hl
  | .sp => s.sp

/-- Writing a pair or SP. -/
def State.setPairSp (s : State) (p : PairSp) (v : Word) : State :=
  match p with
  | .bc => s.setPair .bc v
  | .de => s.setPair .de v
  | .hl => s.setPair .hl v
  | .sp => { s with sp := v }

/-- The address in BC or DE that LDAX and STAX use (R42). -/
def State.pairIx (s : State) (p : PairIx) : Word :=
  match p with
  | .bc => s.pair .bc
  | .de => s.pair .de

/-- `cond(cc)` (R93). -/
def condHolds (cc : Cond) (f : Flags) : Bool :=
  match cc with
  | .nz => !f.z
  | .z => f.z
  | .nc => !f.c
  | .c => f.c
  | .po => !f.p
  | .pe => f.p
  | .p => !f.s
  | .m => f.s

/-- Whether `a` lies in the region. -/
def regionHas (r : Region) (a : Word) : Bool := decide (r.lo ≤ a) && decide (a ≤ r.hi)

/-- What a memory map makes of an address: the first region that holds it, plain RAM where none does (R51, D21). -/
def memKindIn (regions : List Region) (a : Word) : MemKind :=
  match regions with
  | [] => .ram
  | r :: regions => if regionHas r a then r.kind else memKindIn regions a

/-- What `MEMORY_MAP` makes of an address. -/
def State.memKind (s : State) (a : Word) : MemKind := memKindIn s.board.memMap a

/-- Whether the address holds a byte of memory: RAM or ROM. -/
def State.holdsByte (s : State) (a : Word) : Bool :=
  match s.memKind a with
  | .ram | .rom => true
  | .absent | .device => false

/-- `MemRead(a, 1)` (R8). RAM and ROM answer the byte they hold; an absent address or a device answers a
free value (R51, log 13). -/
def State.load (s : State) (why : Access) (a : Word) : Byte :=
  match s.memKind a with
  | .ram => s.mem.read a.toNat
  | .rom => s.mem.read a.toNat
  | .absent => Config.busByte s.tick s.output why a
  | .device => Config.busByte s.tick s.output why a

/-- `MemWrite(a, 1, v)` (R8). ROM and an absent address keep nothing, a device is told (R51, R260, log 13). -/
def State.store (s : State) (a : Word) (v : Byte) : State :=
  match s.memKind a with
  | .ram => { s with mem := s.mem.write a.toNat v }
  | .rom => s
  | .absent => s
  | .device => { s with output := s.output ++ [.memWrite a v] }

/-- `MemRead(a, 2)` (R8): the low byte at `a`, the high byte at the next address modulo 65536 (R46). -/
def State.load16 (s : State) (a : Word) : Word := wordOf (s.load .data (a + 1#16)) (s.load .data a)

/-- `MemWrite(a, 2, v)` (R8): the low byte first (R47). -/
def State.store16 (s : State) (a : Word) (v : Word) : State :=
  (s.store a (loByte v)).store (a + 1#16) (hiByte v)

/-- The second operand `op2` of an accumulator operation (R88). -/
def State.operand (s : State) (o : Operand) : Byte :=
  match o with
  | .reg r => s.reg r
  | .mem => s.load .data (s.pair .hl)
  | .imm d8 => d8

end Sys2Proof.Machine
end

