-- ==== Sys2Proof/Machine/Ops.lean ====
section
/-! DEFINITION. The named operations the instructions share: the stack, call and return, taking an
interrupt, the reset signal, and the parts of the step cycle (R70). -/

namespace Sys2Proof.Machine

/-- Two bytes onto the stack: `hi` to SP-1, then `lo` to SP-2, and SP less 2 (R45, R47, R81). -/
def State.push (s : State) (hi lo : Byte) : State :=
  let t := (s.store (s.sp - 1#16) hi).store (s.sp - 2#16) lo
  { t with sp := s.sp - 2#16 }

/-- SP past the two bytes at the top of the stack (R81). -/
def State.dropTop (s : State) : State := { s with sp := s.sp + 2#16 }

/-- `call(target)` (R96): the address of the next instruction is pushed. -/
def State.callTo (s : State) (target : Word) : State :=
  { s.push (hiByte s.pc) (loByte s.pc) with pc := target }

/-- `ret()` (R97): also the way back from an interrupt handler (R226). -/
def State.ret (s : State) : State := { s.dropTop with pc := s.load16 s.sp }

/-- The address of RST n (R50, R64): `8 * n`. -/
def restartAddress (n : Fin 8) : Word := BitVec.ofNat 16 (8 * n.val)

/-- `accept_interrupt(n)` (R224): taking the one exception this machine has. The return address, and
nothing else, is saved on the stack; INTE and HALTED are cleared; PC goes to the restart address. -/
def State.acceptInterrupt (s : State) (n : Fin 8) : State :=
  { s with inte := false, halted := false }.callTo (restartAddress n)

/-- The flags as five bits, S in bit 4 to C in bit 0. -/
def packFlags (f : Flags) : BitVec 5 :=
  BitVec.ofBool f.s ++ BitVec.ofBool f.z ++ BitVec.ofBool f.h ++ BitVec.ofBool f.p ++ BitVec.ofBool f.c

/-- The flags that five bits stand for. -/
def unpackFlags (v : BitVec 5) : Flags :=
  { s := v.getLsbD 4, z := v.getLsbD 3, h := v.getLsbD 2, p := v.getLsbD 1, c := v.getLsbD 0 }

/-- The reset signal (R250): control state and PC take their reset values, memory and the board stay, and
the registers, SP and the flags are no longer known (R251), that is free values. -/
def State.resetSignal (s : State) : State :=
  { s with
    regs :=
      { b := Config.resetReg s.tick (regCode .b) s.regs.b
        c := Config.resetReg s.tick (regCode .c) s.regs.c
        d := Config.resetReg s.tick (regCode .d) s.regs.d
        e := Config.resetReg s.tick (regCode .e) s.regs.e
        h := Config.resetReg s.tick (regCode .h) s.regs.h
        l := Config.resetReg s.tick (regCode .l) s.regs.l
        a := Config.resetReg s.tick (regCode .a) s.regs.a }
    flags := unpackFlags (Config.resetFlags s.tick (packFlags s.flags))
    sp := Config.resetSp s.tick s.sp
    pc := s.board.resetPc
    inte := false
    eiPend := false
    halted := false }

/-- What is asserted at the coming boundary. -/
def State.pins (s : State) : Pins := s.schedule.headD Pins.idle

/-- The boundary is passed: what was asserted at it is not remembered (R221). -/
def State.passBoundary (s : State) : State := { s with schedule := s.schedule.tail }

/-- The next step draws other free values. -/
def State.nextTick (s : State) : State := { s with tick := s.tick + 1 }

/-- What an acceptable interrupt at the coming boundary supplies (R223): INT asserted, `INTE = 1`,
`EI_PEND = 0`, and reset not asserted. -/
def State.acceptable (s : State) : Option Supply :=
  if s.inte && !s.eiPend && !s.pins.reset then s.pins.int else none

/-- The bytes the step cycle reads at PC (R70 clause 3): the opcode, then as many as it needs, each at the
next address modulo 65536. -/
def State.fetchBytes (s : State) : List Byte :=
  (List.range (opLength (s.load .fetch s.pc))).map fun k => s.load .fetch (s.pc + BitVec.ofNat 16 k)

/-- The instruction at PC and its length, or the unassigned byte that stands there (R68). -/
def State.fetch (s : State) : Except Byte (Instr × Nat) :=
  match decode s.fetchBytes with
  | .ok (i, _) => .ok (i, s.fetchBytes.length)
  | .error _ => .error (s.load .fetch s.pc)

/-- Before the operation (R70 clause 3): PC past the instruction, `EI_PEND` cleared. -/
def State.beginInstr (s : State) (len : Nat) : State :=
  { s.passBoundary with pc := s.pc + BitVec.ofNat 16 len, eiPend := false }

/-- Whether the instruction is DI, which cancels a pending EI (R70 clause 4, R163). -/
def cancelsEi (i : Instr) : Bool := decide (i = .di)

/-- After the operation (R70 clause 4): an EI that was pending before this instruction takes effect, unless
the instruction was DI. -/
def State.endInstr (s : State) (pending : Bool) (i : Instr) : State :=
  { s.nextTick with inte := s.inte || (pending && !cancelsEi i) }

end Sys2Proof.Machine
end

