-- ==== Sys2Proof/Machine/Alu16.lean ====
section
/-! DEFINITION. 16-bit arithmetic (R91, R165 to R176): DAD writes C and H, INX and DCX no flag. -/

namespace Sys2Proof.Machine

/-- `rp[HL] <- dad16(rp[HL], rp[p])`, or SP (R165 to R168). -/
def addPair (p : PairSp) (s : State) : Result :=
  let r := dad16 s.flags (s.pair .hl) (s.pairSp p)
  .next { s.setPair .hl r.1 with flags := r.2 }

/-- `rp[p] <- (rp[p] + 1) mod 65536`, or SP (R169 to R172). -/
def incrementPair (p : PairSp) (s : State) : Result := .next (s.setPairSp p (s.pairSp p + 1#16))

/-- `rp[p] <- (rp[p] - 1) mod 65536`, or SP (R173 to R176). -/
def decrementPair (p : PairSp) (s : State) : Result := .next (s.setPairSp p (s.pairSp p - 1#16))

/-- `DAD B` (R165). -/
def execDadB (s : State) : Result := addPair .bc s

/-- `DAD D` (R166). -/
def execDadD (s : State) : Result := addPair .de s

/-- `DAD H` (R167). -/
def execDadH (s : State) : Result := addPair .hl s

/-- `DAD SP` (R168). -/
def execDadSP (s : State) : Result := addPair .sp s

/-- `INX B` (R169). -/
def execInxB (s : State) : Result := incrementPair .bc s

/-- `INX D` (R170). -/
def execInxD (s : State) : Result := incrementPair .de s

/-- `INX H` (R171). -/
def execInxH (s : State) : Result := incrementPair .hl s

/-- `INX SP` (R172). -/
def execInxSP (s : State) : Result := incrementPair .sp s

/-- `DCX B` (R173). -/
def execDcxB (s : State) : Result := decrementPair .bc s

/-- `DCX D` (R174). -/
def execDcxD (s : State) : Result := decrementPair .de s

/-- `DCX H` (R175). -/
def execDcxH (s : State) : Result := decrementPair .hl s

/-- `DCX SP` (R176). -/
def execDcxSP (s : State) : Result := decrementPair .sp s

end Sys2Proof.Machine
end

