-- ==== Sys2Proof/Machine/Alu8.lean ====
section
/-! DEFINITION. 8-bit arithmetic and logic (R83 to R89, R129 to R156). -/

namespace Sys2Proof.Machine

/-- An accumulator operation (R83, R88): A and the second operand in, the result to A, unless the operation
is CMP, and the flags of the operation. -/
def aluOperate (op : AluOp) (o : Operand) (s : State) : Result :=
  let r := aluCompute s.board.variant op s.flags (s.reg .a) (s.operand o)
  if aluKeepsA op then .next { s with flags := r.2 } else .next { s.setReg .a r.1 with flags := r.2 }

/-- `x[r] <- inr8(x[r])` (R153). -/
def incrementReg (r : Reg) (s : State) : Result :=
  let v := inr8 s.board.variant s.flags (s.reg r)
  .next { s.setReg r v.1 with flags := v.2 }

/-- `x[r] <- dcr8(x[r])` (R155). -/
def decrementReg (r : Reg) (s : State) : Result :=
  let v := dcr8 s.board.variant s.flags (s.reg r)
  .next { s.setReg r v.1 with flags := v.2 }

/-- `ADD B` (R129). -/
def execAddB (s : State) : Result := aluOperate .add (.reg .b) s

/-- `ADD C` (R129). -/
def execAddC (s : State) : Result := aluOperate .add (.reg .c) s

/-- `ADD D` (R129). -/
def execAddD (s : State) : Result := aluOperate .add (.reg .d) s

/-- `ADD E` (R129). -/
def execAddE (s : State) : Result := aluOperate .add (.reg .e) s

/-- `ADD H` (R129). -/
def execAddH (s : State) : Result := aluOperate .add (.reg .h) s

/-- `ADD L` (R129). -/
def execAddL (s : State) : Result := aluOperate .add (.reg .l) s

/-- `ADD A` (R129). -/
def execAddA (s : State) : Result := aluOperate .add (.reg .a) s

/-- `ADI B2` (R130). -/
def execAdi (d8 : Byte) (s : State) : Result := aluOperate .add (.imm d8) s

/-- `ADD M` (R131). -/
def execAddM (s : State) : Result := aluOperate .add .mem s

/-- `ADC B` (R132). -/
def execAdcB (s : State) : Result := aluOperate .adc (.reg .b) s

/-- `ADC C` (R132). -/
def execAdcC (s : State) : Result := aluOperate .adc (.reg .c) s

/-- `ADC D` (R132). -/
def execAdcD (s : State) : Result := aluOperate .adc (.reg .d) s

/-- `ADC E` (R132). -/
def execAdcE (s : State) : Result := aluOperate .adc (.reg .e) s

/-- `ADC H` (R132). -/
def execAdcH (s : State) : Result := aluOperate .adc (.reg .h) s

/-- `ADC L` (R132). -/
def execAdcL (s : State) : Result := aluOperate .adc (.reg .l) s

/-- `ADC A` (R132). -/
def execAdcA (s : State) : Result := aluOperate .adc (.reg .a) s

/-- `ACI B2` (R133). -/
def execAci (d8 : Byte) (s : State) : Result := aluOperate .adc (.imm d8) s

/-- `ADC M` (R134). -/
def execAdcM (s : State) : Result := aluOperate .adc .mem s

/-- `SUB B` (R135). -/
def execSubB (s : State) : Result := aluOperate .sub (.reg .b) s

/-- `SUB C` (R135). -/
def execSubC (s : State) : Result := aluOperate .sub (.reg .c) s

/-- `SUB D` (R135). -/
def execSubD (s : State) : Result := aluOperate .sub (.reg .d) s

/-- `SUB E` (R135). -/
def execSubE (s : State) : Result := aluOperate .sub (.reg .e) s

/-- `SUB H` (R135). -/
def execSubH (s : State) : Result := aluOperate .sub (.reg .h) s

/-- `SUB L` (R135). -/
def execSubL (s : State) : Result := aluOperate .sub (.reg .l) s

/-- `SUB A` (R135). -/
def execSubA (s : State) : Result := aluOperate .sub (.reg .a) s

/-- `SUI B2` (R136). -/
def execSui (d8 : Byte) (s : State) : Result := aluOperate .sub (.imm d8) s

/-- `SUB M` (R137). -/
def execSubM (s : State) : Result := aluOperate .sub .mem s

/-- `SBB B` (R138). -/
def execSbbB (s : State) : Result := aluOperate .sbb (.reg .b) s

/-- `SBB C` (R138). -/
def execSbbC (s : State) : Result := aluOperate .sbb (.reg .c) s

/-- `SBB D` (R138). -/
def execSbbD (s : State) : Result := aluOperate .sbb (.reg .d) s

/-- `SBB E` (R138). -/
def execSbbE (s : State) : Result := aluOperate .sbb (.reg .e) s

/-- `SBB H` (R138). -/
def execSbbH (s : State) : Result := aluOperate .sbb (.reg .h) s

/-- `SBB L` (R138). -/
def execSbbL (s : State) : Result := aluOperate .sbb (.reg .l) s

/-- `SBB A` (R138). -/
def execSbbA (s : State) : Result := aluOperate .sbb (.reg .a) s

/-- `SBI B2` (R139). -/
def execSbi (d8 : Byte) (s : State) : Result := aluOperate .sbb (.imm d8) s

/-- `SBB M` (R140). -/
def execSbbM (s : State) : Result := aluOperate .sbb .mem s

/-- `ANA B` (R141). -/
def execAnaB (s : State) : Result := aluOperate .ana (.reg .b) s

/-- `ANA C` (R141). -/
def execAnaC (s : State) : Result := aluOperate .ana (.reg .c) s

/-- `ANA D` (R141). -/
def execAnaD (s : State) : Result := aluOperate .ana (.reg .d) s

/-- `ANA E` (R141). -/
def execAnaE (s : State) : Result := aluOperate .ana (.reg .e) s

/-- `ANA H` (R141). -/
def execAnaH (s : State) : Result := aluOperate .ana (.reg .h) s

/-- `ANA L` (R141). -/
def execAnaL (s : State) : Result := aluOperate .ana (.reg .l) s

/-- `ANA A` (R141). -/
def execAnaA (s : State) : Result := aluOperate .ana (.reg .a) s

/-- `ANI B2` (R142). -/
def execAni (d8 : Byte) (s : State) : Result := aluOperate .ana (.imm d8) s

/-- `ANA M` (R143). -/
def execAnaM (s : State) : Result := aluOperate .ana .mem s

/-- `ORA B` (R144). -/
def execOraB (s : State) : Result := aluOperate .ora (.reg .b) s

/-- `ORA C` (R144). -/
def execOraC (s : State) : Result := aluOperate .ora (.reg .c) s

/-- `ORA D` (R144). -/
def execOraD (s : State) : Result := aluOperate .ora (.reg .d) s

/-- `ORA E` (R144). -/
def execOraE (s : State) : Result := aluOperate .ora (.reg .e) s

/-- `ORA H` (R144). -/
def execOraH (s : State) : Result := aluOperate .ora (.reg .h) s

/-- `ORA L` (R144). -/
def execOraL (s : State) : Result := aluOperate .ora (.reg .l) s

/-- `ORA A` (R144). -/
def execOraA (s : State) : Result := aluOperate .ora (.reg .a) s

/-- `ORI B2` (R145). -/
def execOri (d8 : Byte) (s : State) : Result := aluOperate .ora (.imm d8) s

/-- `ORA M` (R146). -/
def execOraM (s : State) : Result := aluOperate .ora .mem s

/-- `XRA B` (R147). -/
def execXraB (s : State) : Result := aluOperate .xra (.reg .b) s

/-- `XRA C` (R147). -/
def execXraC (s : State) : Result := aluOperate .xra (.reg .c) s

/-- `XRA D` (R147). -/
def execXraD (s : State) : Result := aluOperate .xra (.reg .d) s

/-- `XRA E` (R147). -/
def execXraE (s : State) : Result := aluOperate .xra (.reg .e) s

/-- `XRA H` (R147). -/
def execXraH (s : State) : Result := aluOperate .xra (.reg .h) s

/-- `XRA L` (R147). -/
def execXraL (s : State) : Result := aluOperate .xra (.reg .l) s

/-- `XRA A` (R147). -/
def execXraA (s : State) : Result := aluOperate .xra (.reg .a) s

/-- `XRI B2` (R148). -/
def execXri (d8 : Byte) (s : State) : Result := aluOperate .xra (.imm d8) s

/-- `XRA M` (R149). -/
def execXraM (s : State) : Result := aluOperate .xra .mem s

/-- `CMP B` (R150). -/
def execCmpB (s : State) : Result := aluOperate .cmp (.reg .b) s

/-- `CMP C` (R150). -/
def execCmpC (s : State) : Result := aluOperate .cmp (.reg .c) s

/-- `CMP D` (R150). -/
def execCmpD (s : State) : Result := aluOperate .cmp (.reg .d) s

/-- `CMP E` (R150). -/
def execCmpE (s : State) : Result := aluOperate .cmp (.reg .e) s

/-- `CMP H` (R150). -/
def execCmpH (s : State) : Result := aluOperate .cmp (.reg .h) s

/-- `CMP L` (R150). -/
def execCmpL (s : State) : Result := aluOperate .cmp (.reg .l) s

/-- `CMP A` (R150). -/
def execCmpA (s : State) : Result := aluOperate .cmp (.reg .a) s

/-- `CPI B2` (R151). -/
def execCpi (d8 : Byte) (s : State) : Result := aluOperate .cmp (.imm d8) s

/-- `CMP M` (R152). -/
def execCmpM (s : State) : Result := aluOperate .cmp .mem s

/-- `INR B` (R153). -/
def execInrB (s : State) : Result := incrementReg .b s

/-- `INR C` (R153). -/
def execInrC (s : State) : Result := incrementReg .c s

/-- `INR D` (R153). -/
def execInrD (s : State) : Result := incrementReg .d s

/-- `INR E` (R153). -/
def execInrE (s : State) : Result := incrementReg .e s

/-- `INR H` (R153). -/
def execInrH (s : State) : Result := incrementReg .h s

/-- `INR L` (R153). -/
def execInrL (s : State) : Result := incrementReg .l s

/-- `INR A` (R153). -/
def execInrA (s : State) : Result := incrementReg .a s

/-- `INR M` (R154): the byte at HL plus 1. -/
def execInrM (s : State) : Result :=
  let v := inr8 s.board.variant s.flags (s.load .data (s.pair .hl))
  .next { s.store (s.pair .hl) v.1 with flags := v.2 }

/-- `DCR B` (R155). -/
def execDcrB (s : State) : Result := decrementReg .b s

/-- `DCR C` (R155). -/
def execDcrC (s : State) : Result := decrementReg .c s

/-- `DCR D` (R155). -/
def execDcrD (s : State) : Result := decrementReg .d s

/-- `DCR E` (R155). -/
def execDcrE (s : State) : Result := decrementReg .e s

/-- `DCR H` (R155). -/
def execDcrH (s : State) : Result := decrementReg .h s

/-- `DCR L` (R155). -/
def execDcrL (s : State) : Result := decrementReg .l s

/-- `DCR A` (R155). -/
def execDcrA (s : State) : Result := decrementReg .a s

/-- `DCR M` (R156): the byte at HL less 1. -/
def execDcrM (s : State) : Result :=
  let v := dcr8 s.board.variant s.flags (s.load .data (s.pair .hl))
  .next { s.store (s.pair .hl) v.1 with flags := v.2 }

end Sys2Proof.Machine
end

