-- ==== Sys2Proof/Machine/CallReturn.lean ====
section
/-! DEFINITION. Calls, returns and restarts (R95 to R97, R191 to R209): no flag changes. -/

namespace Sys2Proof.Machine

/-- `if cond(cc): call(addr16)` (R192 to R199); not taken, nothing happens (R95). -/
def callIf (cc : Cond) (a16 : Word) (s : State) : Result :=
  if condHolds cc s.flags then .next (s.callTo a16) else .next s

/-- `if cond(cc): ret()` (R201 to R208); not taken, nothing happens (R95). -/
def returnIf (cc : Cond) (s : State) : Result :=
  if condHolds cc s.flags then .next s.ret else .next s

/-- `call(8 * n)` (R209). -/
def restart (n : Fin 8) (s : State) : Result := .next (s.callTo (restartAddress n))

/-- `CALL B3B2` (R191): `call(addr16)`. -/
def execCall (a16 : Word) (s : State) : Result := .next (s.callTo a16)

/-- `CNZ B3B2` (R192). -/
def execCnz (a16 : Word) (s : State) : Result := callIf .nz a16 s

/-- `CZ B3B2` (R193). -/
def execCz (a16 : Word) (s : State) : Result := callIf .z a16 s

/-- `CNC B3B2` (R194). -/
def execCnc (a16 : Word) (s : State) : Result := callIf .nc a16 s

/-- `CC B3B2` (R195). -/
def execCc (a16 : Word) (s : State) : Result := callIf .c a16 s

/-- `CPO B3B2` (R196). -/
def execCpo (a16 : Word) (s : State) : Result := callIf .po a16 s

/-- `CPE B3B2` (R197). -/
def execCpe (a16 : Word) (s : State) : Result := callIf .pe a16 s

/-- `CP B3B2` (R198). -/
def execCp (a16 : Word) (s : State) : Result := callIf .p a16 s

/-- `CM B3B2` (R199). -/
def execCm (a16 : Word) (s : State) : Result := callIf .m a16 s

/-- `RET` (R200): `ret()`. -/
def execRet (s : State) : Result := .next s.ret

/-- `RNZ` (R201). -/
def execRnz (s : State) : Result := returnIf .nz s

/-- `RZ` (R202). -/
def execRz (s : State) : Result := returnIf .z s

/-- `RNC` (R203). -/
def execRnc (s : State) : Result := returnIf .nc s

/-- `RC` (R204). -/
def execRc (s : State) : Result := returnIf .c s

/-- `RPO` (R205). -/
def execRpo (s : State) : Result := returnIf .po s

/-- `RPE` (R206). -/
def execRpe (s : State) : Result := returnIf .pe s

/-- `RP` (R207). -/
def execRp (s : State) : Result := returnIf .p s

/-- `RM` (R208). -/
def execRm (s : State) : Result := returnIf .m s

/-- `RST 0` (R209). -/
def execRst0 (s : State) : Result := restart 0 s

/-- `RST 1` (R209). -/
def execRst1 (s : State) : Result := restart 1 s

/-- `RST 2` (R209). -/
def execRst2 (s : State) : Result := restart 2 s

/-- `RST 3` (R209). -/
def execRst3 (s : State) : Result := restart 3 s

/-- `RST 4` (R209). -/
def execRst4 (s : State) : Result := restart 4 s

/-- `RST 5` (R209). -/
def execRst5 (s : State) : Result := restart 5 s

/-- `RST 6` (R209). -/
def execRst6 (s : State) : Result := restart 6 s

/-- `RST 7` (R209). -/
def execRst7 (s : State) : Result := restart 7 s

end Sys2Proof.Machine
end

