-- ==== Sys2Proof/Machine/Exchange.lean ====
section
/-! DEFINITION. Exchange (R82, R127, R128): no flag changes, SP stays. -/

namespace Sys2Proof.Machine

/-- `XCHG` (R127): HL and DE exchanged. -/
def execXchg (s : State) : Result := .next ((s.setPair .hl (s.pair .de)).setPair .de (s.pair .hl))

/-- `XTHL` (R128): HL exchanged with the two bytes at SP, which are read before they are written. -/
def execXthl (s : State) : Result := .next ((s.store16 s.sp (s.pair .hl)).setPair .hl (s.load16 s.sp))

end Sys2Proof.Machine
end

