-- ==== Sys2Proof/Machine/InOut.lean ====
section
/-! DEFINITION. Input and output (R98, R210, R211): no flag changes. -/

namespace Sys2Proof.Machine

/-- `IN B2` (R210): `x[A] <- IoRead(B2)`, the answer the environment has ready, else a free value (D19). -/
def execInPort (port : Byte) (s : State) : Result :=
  match s.ioIn with
  | v :: rest => .next { s.setReg .a v with ioIn := rest }
  | [] => .next (s.setReg .a (Config.ioByte s.tick s.output port))

/-- `OUT B2` (R211): `IoWrite(B2, x[A])`. -/
def execOutPort (port : Byte) (s : State) : Result := .next { s with output := s.output ++ [.ioWrite port (s.reg .a)] }

end Sys2Proof.Machine
end

