-- ==== Sys2Proof/Machine/Jump.lean ====
section
/-! DEFINITION. Jumps (R93, R94, R181 to R190): only PC changes, no flag, no memory access. -/

namespace Sys2Proof.Machine

/-- `if cond(cc): pc <- addr16` (R182 to R189). PC is already past the instruction. -/
def jumpIf (cc : Cond) (a16 : Word) (s : State) : Result :=
  if condHolds cc s.flags then .next { s with pc := a16 } else .next s

/-- `JMP B3B2` (R181): `pc <- addr16`. -/
def execJmp (a16 : Word) (s : State) : Result := .next { s with pc := a16 }

/-- `JNZ B3B2` (R182). -/
def execJnz (a16 : Word) (s : State) : Result := jumpIf .nz a16 s

/-- `JZ B3B2` (R183). -/
def execJz (a16 : Word) (s : State) : Result := jumpIf .z a16 s

/-- `JNC B3B2` (R184). -/
def execJnc (a16 : Word) (s : State) : Result := jumpIf .nc a16 s

/-- `JC B3B2` (R185). -/
def execJc (a16 : Word) (s : State) : Result := jumpIf .c a16 s

/-- `JPO B3B2` (R186). -/
def execJpo (a16 : Word) (s : State) : Result := jumpIf .po a16 s

/-- `JPE B3B2` (R187). -/
def execJpe (a16 : Word) (s : State) : Result := jumpIf .pe a16 s

/-- `JP B3B2` (R188). -/
def execJp (a16 : Word) (s : State) : Result := jumpIf .p a16 s

/-- `JM B3B2` (R189). -/
def execJm (a16 : Word) (s : State) : Result := jumpIf .m a16 s

/-- `PCHL` (R190): `pc <- rp[HL]`. -/
def execPchl (s : State) : Result := .next { s with pc := s.pair .hl }

end Sys2Proof.Machine
end

