-- ==== Sys2Proof/Machine/MiscControl.lean ====
section
/-! DEFINITION. DAA, CMA, CMC, STC, NOP, HLT, DI, EI (R90, R157 to R164). -/

namespace Sys2Proof.Machine

/-- `DAA` (R157): the decimal correction of A. -/
def execDaa (s : State) : Result :=
  let r := daa8 s.board.daaH s.flags (s.reg .a)
  .next { s.setReg .a r.1 with flags := r.2 }

/-- `CMA` (R158): every bit of A inverted. -/
def execCma (s : State) : Result := .next (s.setReg .a (s.reg .a ^^^ 0xFF#8))

/-- `CMC` (R159): C inverted. -/
def execCmc (s : State) : Result := .next { s with flags := { s.flags with c := !s.flags.c } }

/-- `STC` (R160): C set. -/
def execStc (s : State) : Result := .next { s with flags := { s.flags with c := true } }

/-- `NOP` (R161): nothing beyond the step cycle. -/
def execNop (s : State) : Result := .next s

/-- `HLT` (R162): `HALTED <- 1`. -/
def execHlt (s : State) : Result := .next { s with halted := true }

/-- `DI` (R163): `INTE <- 0`; that it cancels a pending EI is `State.endInstr`. -/
def execDi (s : State) : Result := .next { s with inte := false }

/-- `EI` (R164): `EI_PEND <- 1`; INTE follows one instruction later. -/
def execEi (s : State) : Result := .next { s with eiPend := true }

end Sys2Proof.Machine
end

