-- ==== Sys2Proof/Machine/Rotate.lean ====
section
/-! DEFINITION. Rotates (R92, R177 to R180): A and C only. -/

namespace Sys2Proof.Machine

/-- A rotate: the new A and the new flags (R92). -/
def rotateA (f : Flags → Byte → Byte × Flags) (s : State) : Result :=
  let r := f s.flags (s.reg .a)
  .next { s.setReg .a r.1 with flags := r.2 }

/-- `RLC` (R177): rotate left. -/
def execRlc (s : State) : Result := rotateA rlc8 s

/-- `RAL` (R178): rotate left through the carry. -/
def execRal (s : State) : Result := rotateA ral8 s

/-- `RRC` (R179): rotate right. -/
def execRrc (s : State) : Result := rotateA rrc8 s

/-- `RAR` (R180): rotate right through the carry. -/
def execRar (s : State) : Result := rotateA rar8 s

end Sys2Proof.Machine
end

