-- ==== Sys2Proof/Machine/Transfer16.lean ====
section
/-! DEFINITION. 16-bit transfer and stack (R81, R112 to R126): only POP PSW writes flags. -/

namespace Sys2Proof.Machine

/-- `rp[p] <- B3 ++ B2`, or SP (R112 to R115). -/
def loadImmPair (p : PairSp) (d16 : Word) (s : State) : Result := .next (s.setPairSp p d16)

/-- Push a pair, the high register first (R119 to R121). -/
def pushPair (p : Pair) (s : State) : Result := .next (s.push (s.reg (pairHi p)) (s.reg (pairLo p)))

/-- Pop a pair, the low register from SP (R123 to R125). -/
def popPair (p : Pair) (s : State) : Result := .next (s.setPair p (s.load16 s.sp)).dropTop

/-- `LXI B,B3B2` (R112). -/
def execLxiB (d16 : Word) (s : State) : Result := loadImmPair .bc d16 s

/-- `LXI D,B3B2` (R113). -/
def execLxiD (d16 : Word) (s : State) : Result := loadImmPair .de d16 s

/-- `LXI H,B3B2` (R114). -/
def execLxiH (d16 : Word) (s : State) : Result := loadImmPair .hl d16 s

/-- `LXI SP,B3B2` (R115). -/
def execLxiSP (d16 : Word) (s : State) : Result := loadImmPair .sp d16 s

/-- `LHLD B3B2` (R116): `rp[HL] <- MemRead(addr16, 2)`. -/
def execLhld (a16 : Word) (s : State) : Result := .next (s.setPair .hl (s.load16 a16))

/-- `SHLD B3B2` (R117): `MemWrite(addr16, 2, rp[HL])`. -/
def execShld (a16 : Word) (s : State) : Result := .next (s.store16 a16 (s.pair .hl))

/-- `SPHL` (R118): `SP <- rp[HL]`. -/
def execSphl (s : State) : Result := .next { s with sp := s.pair .hl }

/-- `PUSH B` (R119). -/
def execPushB (s : State) : Result := pushPair .bc s

/-- `PUSH D` (R120). -/
def execPushD (s : State) : Result := pushPair .de s

/-- `PUSH H` (R121). -/
def execPushH (s : State) : Result := pushPair .hl s

/-- `PUSH PSW` (R122): A, then the flag byte, whose bits 5, 3, 1 are free (D6). -/
def execPushPSW (s : State) : Result := .next (s.push (s.reg .a) (flagByte s.flags (Config.fUnused s.tick)))

/-- `POP B` (R123). -/
def execPopB (s : State) : Result := popPair .bc s

/-- `POP D` (R124). -/
def execPopD (s : State) : Result := popPair .de s

/-- `POP H` (R125). -/
def execPopH (s : State) : Result := popPair .hl s

/-- `POP PSW` (R126): the flag byte from SP, A from SP+1. -/
def execPopPSW (s : State) : Result :=
  .next { (s.setReg .a (s.load .data (s.sp + 1#16))).dropTop with flags := flagsOfByte (s.load .data s.sp) }

end Sys2Proof.Machine
end

