-- ==== Sys2Proof/Machine/Transfer8.lean ====
section
/-! DEFINITION. 8-bit transfer (R80, R101 to R111): no flag changes. -/

namespace Sys2Proof.Machine

/-- `x[dst] <- x[src]` (R101). -/
def movRegReg (dst src : Reg) (s : State) : Result := .next (s.setReg dst (s.reg src))

/-- `x[dst] <- MemRead(rp[HL], 1)` (R102): the address is formed before the register is written. -/
def movRegMem (dst : Reg) (s : State) : Result := .next (s.setReg dst (s.load .data (s.pair .hl)))

/-- `MemWrite(rp[HL], 1, x[src])` (R103). -/
def movMemReg (src : Reg) (s : State) : Result := .next (s.store (s.pair .hl) (s.reg src))

/-- `x[dst] <- B2` (R104). -/
def moveImmReg (dst : Reg) (d8 : Byte) (s : State) : Result := .next (s.setReg dst d8)

/-- `x[A] <- MemRead(rp[p], 1)` (R106, R107). -/
def loadAIndirect (p : PairIx) (s : State) : Result := .next (s.setReg .a (s.load .data (s.pairIx p)))

/-- `MemWrite(rp[p], 1, x[A])` (R109, R110). -/
def storeAIndirect (p : PairIx) (s : State) : Result := .next (s.store (s.pairIx p) (s.reg .a))

/-- `MOV B,B` (R101). -/
def execMovBB (s : State) : Result := movRegReg .b .b s

/-- `MOV B,C` (R101). -/
def execMovBC (s : State) : Result := movRegReg .b .c s

/-- `MOV B,D` (R101). -/
def execMovBD (s : State) : Result := movRegReg .b .d s

/-- `MOV B,E` (R101). -/
def execMovBE (s : State) : Result := movRegReg .b .e s

/-- `MOV B,H` (R101). -/
def execMovBH (s : State) : Result := movRegReg .b .h s

/-- `MOV B,L` (R101). -/
def execMovBL (s : State) : Result := movRegReg .b .l s

/-- `MOV B,A` (R101). -/
def execMovBA (s : State) : Result := movRegReg .b .a s

/-- `MOV C,B` (R101). -/
def execMovCB (s : State) : Result := movRegReg .c .b s

/-- `MOV C,C` (R101). -/
def execMovCC (s : State) : Result := movRegReg .c .c s

/-- `MOV C,D` (R101). -/
def execMovCD (s : State) : Result := movRegReg .c .d s

/-- `MOV C,E` (R101). -/
def execMovCE (s : State) : Result := movRegReg .c .e s

/-- `MOV C,H` (R101). -/
def execMovCH (s : State) : Result := movRegReg .c .h s

/-- `MOV C,L` (R101). -/
def execMovCL (s : State) : Result := movRegReg .c .l s

/-- `MOV C,A` (R101). -/
def execMovCA (s : State) : Result := movRegReg .c .a s

/-- `MOV D,B` (R101). -/
def execMovDB (s : State) : Result := movRegReg .d .b s

/-- `MOV D,C` (R101). -/
def execMovDC (s : State) : Result := movRegReg .d .c s

/-- `MOV D,D` (R101). -/
def execMovDD (s : State) : Result := movRegReg .d .d s

/-- `MOV D,E` (R101). -/
def execMovDE (s : State) : Result := movRegReg .d .e s

/-- `MOV D,H` (R101). -/
def execMovDH (s : State) : Result := movRegReg .d .h s

/-- `MOV D,L` (R101). -/
def execMovDL (s : State) : Result := movRegReg .d .l s

/-- `MOV D,A` (R101). -/
def execMovDA (s : State) : Result := movRegReg .d .a s

/-- `MOV E,B` (R101). -/
def execMovEB (s : State) : Result := movRegReg .e .b s

/-- `MOV E,C` (R101). -/
def execMovEC (s : State) : Result := movRegReg .e .c s

/-- `MOV E,D` (R101). -/
def execMovED (s : State) : Result := movRegReg .e .d s

/-- `MOV E,E` (R101). -/
def execMovEE (s : State) : Result := movRegReg .e .e s

/-- `MOV E,H` (R101). -/
def execMovEH (s : State) : Result := movRegReg .e .h s

/-- `MOV E,L` (R101). -/
def execMovEL (s : State) : Result := movRegReg .e .l s

/-- `MOV E,A` (R101). -/
def execMovEA (s : State) : Result := movRegReg .e .a s

/-- `MOV H,B` (R101). -/
def execMovHB (s : State) : Result := movRegReg .h .b s

/-- `MOV H,C` (R101). -/
def execMovHC (s : State) : Result := movRegReg .h .c s

/-- `MOV H,D` (R101). -/
def execMovHD (s : State) : Result := movRegReg .h .d s

/-- `MOV H,E` (R101). -/
def execMovHE (s : State) : Result := movRegReg .h .e s

/-- `MOV H,H` (R101). -/
def execMovHH (s : State) : Result := movRegReg .h .h s

/-- `MOV H,L` (R101). -/
def execMovHL (s : State) : Result := movRegReg .h .l s

/-- `MOV H,A` (R101). -/
def execMovHA (s : State) : Result := movRegReg .h .a s

/-- `MOV L,B` (R101). -/
def execMovLB (s : State) : Result := movRegReg .l .b s

/-- `MOV L,C` (R101). -/
def execMovLC (s : State) : Result := movRegReg .l .c s

/-- `MOV L,D` (R101). -/
def execMovLD (s : State) : Result := movRegReg .l .d s

/-- `MOV L,E` (R101). -/
def execMovLE (s : State) : Result := movRegReg .l .e s

/-- `MOV L,H` (R101). -/
def execMovLH (s : State) : Result := movRegReg .l .h s

/-- `MOV L,L` (R101). -/
def execMovLL (s : State) : Result := movRegReg .l .l s

/-- `MOV L,A` (R101). -/
def execMovLA (s : State) : Result := movRegReg .l .a s

/-- `MOV A,B` (R101). -/
def execMovAB (s : State) : Result := movRegReg .a .b s

/-- `MOV A,C` (R101). -/
def execMovAC (s : State) : Result := movRegReg .a .c s

/-- `MOV A,D` (R101). -/
def execMovAD (s : State) : Result := movRegReg .a .d s

/-- `MOV A,E` (R101). -/
def execMovAE (s : State) : Result := movRegReg .a .e s

/-- `MOV A,H` (R101). -/
def execMovAH (s : State) : Result := movRegReg .a .h s

/-- `MOV A,L` (R101). -/
def execMovAL (s : State) : Result := movRegReg .a .l s

/-- `MOV A,A` (R101). -/
def execMovAA (s : State) : Result := movRegReg .a .a s

/-- `MOV B,M` (R102). -/
def execMovBM (s : State) : Result := movRegMem .b s

/-- `MOV C,M` (R102). -/
def execMovCM (s : State) : Result := movRegMem .c s

/-- `MOV D,M` (R102). -/
def execMovDM (s : State) : Result := movRegMem .d s

/-- `MOV E,M` (R102). -/
def execMovEM (s : State) : Result := movRegMem .e s

/-- `MOV H,M` (R102). -/
def execMovHM (s : State) : Result := movRegMem .h s

/-- `MOV L,M` (R102). -/
def execMovLM (s : State) : Result := movRegMem .l s

/-- `MOV A,M` (R102). -/
def execMovAM (s : State) : Result := movRegMem .a s

/-- `MOV M,B` (R103). -/
def execMovMB (s : State) : Result := movMemReg .b s

/-- `MOV M,C` (R103). -/
def execMovMC (s : State) : Result := movMemReg .c s

/-- `MOV M,D` (R103). -/
def execMovMD (s : State) : Result := movMemReg .d s

/-- `MOV M,E` (R103). -/
def execMovME (s : State) : Result := movMemReg .e s

/-- `MOV M,H` (R103). -/
def execMovMH (s : State) : Result := movMemReg .h s

/-- `MOV M,L` (R103). -/
def execMovML (s : State) : Result := movMemReg .l s

/-- `MOV M,A` (R103). -/
def execMovMA (s : State) : Result := movMemReg .a s

/-- `MVI B,B2` (R104). -/
def execMviB (d8 : Byte) (s : State) : Result := moveImmReg .b d8 s

/-- `MVI C,B2` (R104). -/
def execMviC (d8 : Byte) (s : State) : Result := moveImmReg .c d8 s

/-- `MVI D,B2` (R104). -/
def execMviD (d8 : Byte) (s : State) : Result := moveImmReg .d d8 s

/-- `MVI E,B2` (R104). -/
def execMviE (d8 : Byte) (s : State) : Result := moveImmReg .e d8 s

/-- `MVI H,B2` (R104). -/
def execMviH (d8 : Byte) (s : State) : Result := moveImmReg .h d8 s

/-- `MVI L,B2` (R104). -/
def execMviL (d8 : Byte) (s : State) : Result := moveImmReg .l d8 s

/-- `MVI A,B2` (R104). -/
def execMviA (d8 : Byte) (s : State) : Result := moveImmReg .a d8 s

/-- `MVI M,B2` (R105): `MemWrite(rp[HL], 1, B2)`. -/
def execMviM (d8 : Byte) (s : State) : Result := .next (s.store (s.pair .hl) d8)

/-- `LDAX B` (R106). -/
def execLdaxB (s : State) : Result := loadAIndirect .bc s

/-- `LDAX D` (R107). -/
def execLdaxD (s : State) : Result := loadAIndirect .de s

/-- `LDA B3B2` (R108): `x[A] <- MemRead(addr16, 1)`. -/
def execLda (a16 : Word) (s : State) : Result := .next (s.setReg .a (s.load .data a16))

/-- `STAX B` (R109). -/
def execStaxB (s : State) : Result := storeAIndirect .bc s

/-- `STAX D` (R110). -/
def execStaxD (s : State) : Result := storeAIndirect .de s

/-- `STA B3B2` (R111): `MemWrite(addr16, 1, x[A])`. -/
def execSta (a16 : Word) (s : State) : Result := .next (s.store a16 (s.reg .a))

end Sys2Proof.Machine
end

