-- ==== Sys2Proof/Machine/Step.lean ====
section
/-! DEFINITION. One step (R70): at the boundary reset first, then an acceptable interrupt, then the halt
state, then the next instruction. -/

namespace Sys2Proof.Machine

/-- Clauses 3 and 4 of R70: fetch, perform, and let an EI that was pending take effect. -/
def State.runInstr (s : State) : Result :=
  match s.fetch with
  | .error op => .fault (.illegalOpcode op)
  | .ok (i, len) =>
    match exec i (s.beginInstr len) with
    | .next t => .next (t.endInstr s.eiPend i)
    | .fault f => .fault f
    | .refused r => .refused r

/-- One step of the CPU (R70, R225). -/
def step (s : State) : Host.Outcome State Fault Refusal :=
  if s.pins.reset then .next s.passBoundary.resetSignal.nextTick
  else
    match s.acceptable with
    | some (.rst n) => .next (s.passBoundary.acceptInterrupt n).nextTick
    | some (.other code) => .refused (.interruptNotRst code)
    | none => if s.halted then .next s.passBoundary else s.runInstr

/-- Memory with the three bytes of an instruction of `nbits` bits at PC, ready to run: what stands at the
three addresses must be memory that answers what it holds, nothing may be asserted at the coming boundary,
and the CPU must not be halted. -/
def State.withFetchWord (s : State) (nbits w : Nat) : State :=
  { s with
    mem := s.mem.writeBytes s.pc (tableBytes nbits w)
    board :=
      { s.board with
        memMap :=
          if [0#16, 1#16, 2#16].all fun k => decide (s.memKind (s.pc + k) = .ram) then s.board.memMap else [] }
    schedule :=
      match s.schedule with
      | [] => []
      | _ :: later => Pins.idle :: later
    halted := false }

end Sys2Proof.Machine
end

