-- ==== Sys2Proof/Safety.lean ====
section
/-! DEFINITION. The words claims use: when a machine is ended, waiting, about to run an instruction; what one
step changes of a frame; and the invariant of the machine. -/

namespace Sys2Proof.Machine

/-- The end of a run (R261): halted with interrupts disabled. -/
def State.ended (s : State) : Bool := s.halted && !s.inte

/-- Waiting for an interrupt (R261): halted with interrupts enabled. -/
def State.waiting (s : State) : Bool := s.halted && s.inte

/-- Nothing keeps the coming step from fetching an instruction: reset is not asserted, no interrupt can be
accepted, and the CPU is not halted (R225 clause 3). -/
def State.readyToFetch (s : State) : Prop :=
  s.pins.reset = false ∧ s.acceptable = none ∧ s.halted = false

/-- The invariant that every step keeps: memory is in its canonical form, and no EI is pending in a halted
machine (R229). -/
def State.Inv (s : State) : Prop := s.mem.wf ∧ (s.halted = true → s.eiPend = false)

/-- The registers other than `written` hold in `t` what they held in `s`. -/
def SameRegsBut (written : List Reg) (s t : State) : Prop :=
  ∀ r, r ∉ written → t.reg r = s.reg r

/-- Every byte of memory at an address not in `stored` reads in `t` what it read in `s`, for a fetch and for
an operand alike. An absent address or a device holds no byte of memory. -/
def SameMemoryBut (stored : List Word) (s t : State) : Prop :=
  ∀ why x, s.holdsByte x = true → x ∉ stored → t.load why x = s.load why x

/-- The control state, the board and the environment's side of the doors are as they were, but for `output`. -/
def SameControl (s t : State) : Prop :=
  t.inte = s.inte ∧ t.eiPend = s.eiPend ∧ t.halted = s.halted ∧ t.board = s.board ∧
    t.schedule = s.schedule ∧ t.ioIn = s.ioIn ∧ t.tick = s.tick

/-- Nothing is stored and nothing is handed to the environment. -/
def StoresNothing (s t : State) : Prop :=
  t.mem = s.mem ∧ t.output = s.output ∧ SameMemoryBut [] s t

/-- Exactly the byte `v` is stored at `x`: RAM holds it afterwards, a device is told of it, ROM and an absent
address keep nothing, and every other byte of memory is as it was. ROM is R51 and R260; the absent address and the
device are the model's choice (log 9, log 13). -/
def StoresByte (x : Word) (v : Byte) (s t : State) : Prop :=
  (s.memKind x = .ram → ∀ why, t.load why x = v) ∧
    (s.memKind x = .rom → ∀ why, t.load why x = s.load why x) ∧
    t.output = (if s.memKind x = .device then s.output ++ [.memWrite x v] else s.output) ∧
    SameMemoryBut [x] s t

/-- Exactly the bytes `v` at `x` and then `w` at `y`, two different addresses, are stored, each as in `StoresByte`. -/
def StoresTwo (x : Word) (v : Byte) (y : Word) (w : Byte) (s t : State) : Prop :=
  (s.memKind x = .ram → ∀ why, t.load why x = v) ∧
    (s.memKind y = .ram → ∀ why, t.load why y = w) ∧
    (s.memKind x = .rom → ∀ why, t.load why x = s.load why x) ∧
    (s.memKind y = .rom → ∀ why, t.load why y = s.load why y) ∧
    t.output = s.output ++ (if s.memKind x = .device then [.memWrite x v] else [])
      ++ (if s.memKind y = .device then [.memWrite y w] else []) ∧
    SameMemoryBut [x, y] s t

/-- Nothing changes but the registers `written`. -/
def RegsOnly (written : List Reg) (s t : State) : Prop :=
  SameRegsBut written s t ∧ t.flags = s.flags ∧ t.sp = s.sp ∧ t.pc = s.pc ∧ StoresNothing s t ∧ SameControl s t

/-- Nothing changes but the registers `written` and the flags. -/
def RegsAndFlagsOnly (written : List Reg) (s t : State) : Prop :=
  SameRegsBut written s t ∧ t.sp = s.sp ∧ t.pc = s.pc ∧ StoresNothing s t ∧ SameControl s t

/-- No register, flag, SP, PC or control state changes. -/
def MemoryOnly (s t : State) : Prop :=
  SameRegsBut [] s t ∧ t.flags = s.flags ∧ t.sp = s.sp ∧ t.pc = s.pc ∧ SameControl s t

/-- Nothing changes but PC. -/
def PcOnly (s t : State) : Prop :=
  SameRegsBut [] s t ∧ t.flags = s.flags ∧ t.sp = s.sp ∧ StoresNothing s t ∧ SameControl s t

/-- The sum of the eight bits of a byte as a number. -/
def bitSum (v : Nat) : Nat :=
  v % 2 + v / 2 % 2 + v / 4 % 2 + v / 8 % 2 + v / 16 % 2 + v / 32 % 2 + v / 64 % 2 + v / 128 % 2

/-- Z, S and P from a result `v` below 256: zero, minus (80 to FF), an even number of 1 bits (R22 to R24). -/
def ResultFlags (v : Nat) (g : Flags) : Prop :=
  (g.z = true ↔ v = 0) ∧ (g.s = true ↔ 128 ≤ v) ∧ (g.p = true ↔ bitSum v % 2 = 0)

/-- As `ResultFlags` on the 8080; on the MYCPU80 P keeps its value in `f` (R86). -/
def ArithmeticFlags (var : Variant) (v : Nat) (f g : Flags) : Prop :=
  (g.z = true ↔ v = 0) ∧ (g.s = true ↔ 128 ≤ v) ∧
    (var = .i8080 → (g.p = true ↔ bitSum v % 2 = 0)) ∧ (var = .mycpu80 → g.p = f.p)

/-- A number below 100 as two BCD digits. -/
def packedBcd (n : Nat) : Byte := BitVec.ofNat 8 (16 * (n / 10) + n % 10)

/-- An opcode byte from its fields `xx yyy zzz` (R63). -/
def fieldByte (x : BitVec 2) (y z : BitVec 3) : Byte := x ++ y ++ z

/-- An opcode byte from its fields `xx pp zzzz` (R63). -/
def pairByte (x pp : BitVec 2) (z : BitVec 4) : Byte := x ++ pp ++ z

/-- The field `pp` of LXI, DAD, INX, DCX (R63). -/
def pairSpCode (p : PairSp) : BitVec 2 :=
  match p with
  | .bc => 0#2
  | .de => 1#2
  | .hl => 2#2
  | .sp => 3#2

/-- The field `pp` of PUSH and POP; PSW is 3 (R63). -/
def pairCode (p : Pair) : BitVec 2 :=
  match p with
  | .bc => 0#2
  | .de => 1#2
  | .hl => 2#2

/-- The field `pp` of LDAX and STAX (R63). -/
def pairIxCode (p : PairIx) : BitVec 2 :=
  match p with
  | .bc => 0#2
  | .de => 1#2

/-- The field `ooo` (R63). -/
def aluCode (op : AluOp) : BitVec 3 :=
  match op with
  | .add => 0#3
  | .adc => 1#3
  | .sub => 2#3
  | .sbb => 3#3
  | .ana => 4#3
  | .xra => 5#3
  | .ora => 6#3
  | .cmp => 7#3

/-- The field `ccc` (R63, R93). -/
def condCode (cc : Cond) : BitVec 3 :=
  match cc with
  | .nz => 0#3
  | .z => 1#3
  | .nc => 2#3
  | .c => 3#3
  | .po => 4#3
  | .pe => 5#3
  | .p => 6#3
  | .m => 7#3

/-- The instructions that write Z and S (the table of 10_state section 4). -/
def writesZS (f : Form) : Bool :=
  match f with
  | .alu _ _ | .inr _ | .inrM | .dcr _ | .dcrM | .daa | .popPsw => true
  | _ => false

/-- The instructions that write C (the same table). -/
def writesC (f : Form) : Bool :=
  match f with
  | .alu _ _ | .daa | .dad _ | .rlc | .ral | .rrc | .rar | .cmc | .stc | .popPsw => true
  | _ => false

/-- The instructions that write H (the same table); DAA only under `DAA_H = carry3`. -/
def writesH (daaH : DaaH) (f : Form) : Bool :=
  match f with
  | .alu _ _ | .inr _ | .inrM | .dcr _ | .dcrM | .dad _ | .popPsw => true
  | .daa => decide (daaH = .carry3)
  | _ => false

/-- The instructions that write SP (R18). -/
def writesSp (f : Form) : Bool :=
  match f with
  | .lxi .sp _ | .inx .sp | .dcx .sp | .sphl => true
  | .push _ | .pushPsw | .pop _ | .popPsw => true
  | .call _ | .ccond _ _ | .ret | .rcond _ | .rst _ => true
  | _ => false

/-- The instructions whose P depends on `VARIANT` (R2, R86): add, subtract, compare, increment, decrement.
Compare is D8 and D29 (log 21, log 29). -/
def arithmeticP (f : Form) : Bool :=
  match f with
  | .alu .add _ | .alu .adc _ | .alu .sub _ | .alu .sbb _ | .alu .cmp _ => true
  | .inr _ | .inrM | .dcr _ | .dcrM => true
  | _ => false

/-- The instructions that write P (the table of 10_state section 4): those that write Z and S, the arithmetic ones
only on the 8080. That compare is one of these is D8 and D29 (log 21, log 29). -/
def writesP (var : Variant) (f : Form) : Bool := writesZS f && (decide (var = .i8080) || !arithmeticP f)

/-- A run of `k` steps neither faults nor is refused. -/
def SafeFor (k : Nat) (s : State) : Prop :=
  match k with
  | 0 => True
  | k + 1 =>
    match step s with
    | .next t => SafeFor k t
    | .fault _ => False
    | .refused _ => False

end Sys2Proof.Machine
end

