-- ==== Sys2Proof/Certificates/Slice0/Obligations.lean ====
section
/-! DEFINITION. The statements for the provers. Each definition's docstring says in words what it states; what a
statement rests on that is a decision of the spec or a choice of the model is named there. -/

open Sys2Proof Sys2Proof.Machine

/-- For every instruction of the table, with every value of its operands, and any bytes after it, the decoder reads
from the encoded bytes exactly that instruction and leaves the bytes after it. -/
def Obligations.DecodeAfterEncode : Prop :=
  ∀ (i : Instr) (rest : List Byte), i.WellFormed → decode (encode i ++ rest) = .ok (i, rest)

/-- Whatever bytes the decoder accepts, the encoding of the instruction it answers followed by the bytes left over
is the bytes it was given: each instruction has one encoding and no bit of it is dropped. -/
def Obligations.EncodeAfterDecode : Prop :=
  ∀ (bytes rest : List Byte) (i : Instr), decode bytes = .ok (i, rest) → encode i ++ rest = bytes

/-- The decoder refuses a first byte as unassigned exactly for 08 10 18 20 28 30 38 CB D9 DD ED FD. The seven MOV
r,r with equal registers decode as MOV and change nothing, and 76, which the MOV pattern would read as MOV M,M,
is HLT. -/
def Obligations.TwelveBytesAreUnassigned : Prop :=
  (∀ (op : Byte) (rest : List Byte),
      decode (op :: rest) = .error (.unassigned op) ↔
        op ∈ ([0x08, 0x10, 0x18, 0x20, 0x28, 0x30, 0x38, 0xCB, 0xD9, 0xDD, 0xED, 0xFD] : List Byte)) ∧
    (∀ r : Reg, decode [fieldByte 1 (regCode r) (regCode r)] = .ok ((Form.mov r r).instr, []) ∧
      ∀ s, exec (Form.mov r r).instr s = .next s) ∧
    fieldByte 1 6 6 = 0x76 ∧ decode [0x76] = .ok (.hlt, [])

/-- Whenever bytes decode, the instruction takes three of them if the opcode is one of the 26 of format F3, two if
it is one of the 18 of format F2, and one otherwise; the other assigned opcodes are 200. -/
def Obligations.OpcodeAloneFixesLength : Prop :=
  (∀ (op : Byte) (bytes rest : List Byte) (i : Instr), decode (op :: bytes) = .ok (i, rest) →
      (op :: bytes).length = rest.length +
        (if op ∈ ([0x01, 0x11, 0x21, 0x31, 0x22, 0x2A, 0x32, 0x3A, 0xC3, 0xC2, 0xCA, 0xD2, 0xDA, 0xE2, 0xEA,
            0xF2, 0xFA, 0xCD, 0xC4, 0xCC, 0xD4, 0xDC, 0xE4, 0xEC, 0xF4, 0xFC] : List Byte) then 3
          else if op ∈ ([0x06, 0x0E, 0x16, 0x1E, 0x26, 0x2E, 0x36, 0x3E, 0xC6, 0xCE, 0xD6, 0xDE, 0xE6, 0xEE,
            0xF6, 0xFE, 0xD3, 0xDB] : List Byte) then 2
          else 1)) ∧
    ((List.range 256).countP fun k => match decode [BitVec.ofNat 8 k] with
      | .ok _ => true
      | .error _ => false) = 200

/-- For every register, pair, condition, operation and restart number, the byte made of the pattern and the field
codes, followed by the operand bytes low byte first, decodes to the instruction of that pattern; and each of the
25 fixed bytes of the last row of the table decodes to the instruction named beside it. (The spec derives the
field structure from the manual's tables.) -/
def Obligations.OpcodeBitFields : Prop :=
  (∀ dst src rest, decode (fieldByte 1 (regCode dst) (regCode src) :: rest) = .ok ((Form.mov dst src).instr, rest)) ∧
    (∀ dst rest, decode (fieldByte 1 (regCode dst) 6 :: rest) = .ok ((Form.movRM dst).instr, rest)) ∧
    (∀ src rest, decode (fieldByte 1 6 (regCode src) :: rest) = .ok ((Form.movMR src).instr, rest)) ∧
    (∀ dst b2 rest, decode (fieldByte 0 (regCode dst) 6 :: b2 :: rest) = .ok ((Form.mvi dst b2).instr, rest)) ∧
    (∀ b2 rest, decode (fieldByte 0 6 6 :: b2 :: rest) = .ok ((Form.mviM b2).instr, rest)) ∧
    (∀ dst rest, decode (fieldByte 0 (regCode dst) 4 :: rest) = .ok ((Form.inr dst).instr, rest)) ∧
    (∀ rest, decode (fieldByte 0 6 4 :: rest) = .ok (Form.inrM.instr, rest)) ∧
    (∀ dst rest, decode (fieldByte 0 (regCode dst) 5 :: rest) = .ok ((Form.dcr dst).instr, rest)) ∧
    (∀ rest, decode (fieldByte 0 6 5 :: rest) = .ok (Form.dcrM.instr, rest)) ∧
    (∀ op src rest, decode (fieldByte 2 (aluCode op) (regCode src) :: rest) = .ok ((Form.alu op (.reg src)).instr, rest)) ∧
    (∀ op rest, decode (fieldByte 2 (aluCode op) 6 :: rest) = .ok ((Form.alu op .mem).instr, rest)) ∧
    (∀ op b2 rest, decode (fieldByte 3 (aluCode op) 6 :: b2 :: rest) = .ok ((Form.alu op (.imm b2)).instr, rest)) ∧
    (∀ p b2 b3 rest, decode (pairByte 0 (pairSpCode p) 1 :: b2 :: b3 :: rest) =
      .ok ((Form.lxi p (b3 ++ b2)).instr, rest)) ∧
    (∀ p rest, decode (pairByte 0 (pairSpCode p) 9 :: rest) = .ok ((Form.dad p).instr, rest)) ∧
    (∀ p rest, decode (pairByte 0 (pairSpCode p) 3 :: rest) = .ok ((Form.inx p).instr, rest)) ∧
    (∀ p rest, decode (pairByte 0 (pairSpCode p) 11 :: rest) = .ok ((Form.dcx p).instr, rest)) ∧
    (∀ p rest, decode (pairByte 0 (pairIxCode p) 2 :: rest) = .ok ((Form.stax p).instr, rest)) ∧
    (∀ p rest, decode (pairByte 0 (pairIxCode p) 10 :: rest) = .ok ((Form.ldax p).instr, rest)) ∧
    (∀ p rest, decode (pairByte 3 (pairCode p) 5 :: rest) = .ok ((Form.push p).instr, rest)) ∧
    (∀ p rest, decode (pairByte 3 (pairCode p) 1 :: rest) = .ok ((Form.pop p).instr, rest)) ∧
    (∀ rest, decode (pairByte 3 3 5 :: rest) = .ok (Form.pushPsw.instr, rest)) ∧
    (∀ rest, decode (pairByte 3 3 1 :: rest) = .ok (Form.popPsw.instr, rest)) ∧
    (∀ cc b2 b3 rest, decode (fieldByte 3 (condCode cc) 2 :: b2 :: b3 :: rest) =
      .ok ((Form.jcond cc (b3 ++ b2)).instr, rest)) ∧
    (∀ cc b2 b3 rest, decode (fieldByte 3 (condCode cc) 4 :: b2 :: b3 :: rest) =
      .ok ((Form.ccond cc (b3 ++ b2)).instr, rest)) ∧
    (∀ cc rest, decode (fieldByte 3 (condCode cc) 0 :: rest) = .ok ((Form.rcond cc).instr, rest)) ∧
    (∀ (n : Fin 8) rest, decode (fieldByte 3 (BitVec.ofNat 3 n.val) 7 :: rest) = .ok ((Form.rst n).instr, rest)) ∧
    (∀ (b2 b3 : Byte) (rest : List Byte),
      decode (0x00 :: rest) = .ok (.nop, rest) ∧ decode (0x07 :: rest) = .ok (.rlc, rest) ∧
      decode (0x0F :: rest) = .ok (.rrc, rest) ∧ decode (0x17 :: rest) = .ok (.ral, rest) ∧
      decode (0x1F :: rest) = .ok (.rar, rest) ∧
      decode (0x22 :: b2 :: b3 :: rest) = .ok (.shld (b3 ++ b2), rest) ∧
      decode (0x27 :: rest) = .ok (.daa, rest) ∧
      decode (0x2A :: b2 :: b3 :: rest) = .ok (.lhld (b3 ++ b2), rest) ∧
      decode (0x2F :: rest) = .ok (.cma, rest) ∧
      decode (0x32 :: b2 :: b3 :: rest) = .ok (.sta (b3 ++ b2), rest) ∧
      decode (0x37 :: rest) = .ok (.stc, rest) ∧
      decode (0x3A :: b2 :: b3 :: rest) = .ok (.lda (b3 ++ b2), rest) ∧
      decode (0x3F :: rest) = .ok (.cmc, rest) ∧ decode (0x76 :: rest) = .ok (.hlt, rest) ∧
      decode (0xC3 :: b2 :: b3 :: rest) = .ok (.jmp (b3 ++ b2), rest) ∧
      decode (0xC9 :: rest) = .ok (.ret, rest) ∧
      decode (0xCD :: b2 :: b3 :: rest) = .ok (.call (b3 ++ b2), rest) ∧
      decode (0xD3 :: b2 :: rest) = .ok (.outPort b2, rest) ∧
      decode (0xDB :: b2 :: rest) = .ok (.inPort b2, rest) ∧ decode (0xE3 :: rest) = .ok (.xthl, rest) ∧
      decode (0xE9 :: rest) = .ok (.pchl, rest) ∧ decode (0xEB :: rest) = .ok (.xchg, rest) ∧
      decode (0xF3 :: rest) = .ok (.di, rest) ∧ decode (0xF9 :: rest) = .ok (.sphl, rest) ∧
      decode (0xFB :: rest) = .ok (.ei, rest))

/-- LDA 1234 is 3A 34 12, RST 3 is DF, CALL 0018 is CD 18 00, and one word of each other family decodes to the
instruction it stands for. -/
def Obligations.SampleWordsDecode : Prop :=
  decode [0x3A, 0x34, 0x12] = .ok (.lda 0x1234, []) ∧ decode [0xDF] = .ok (.rst3, []) ∧
    decode [0xCD, 0x18, 0x00] = .ok (.call 0x0018, []) ∧ decode [0x31, 0x00, 0xF0] = .ok (.lxiSP 0xF000, []) ∧
    decode [0xEB] = .ok (.xchg, []) ∧ decode [0xC6, 0x01] = .ok (.adi 0x01, []) ∧ decode [0x27] = .ok (.daa, []) ∧
    decode [0x09] = .ok (.dadB, []) ∧ decode [0x1F] = .ok (.rar, []) ∧
    decode [0xC2, 0x34, 0x12] = .ok (.jnz 0x1234, []) ∧ decode [0xDB, 0x01] = .ok (.inPort 0x01, [])

/-- When nothing keeps the CPU from fetching and the bytes it reads at PC decode to a well-formed instruction i, the
step is exec of i on the state with the boundary passed, PC past the instruction and EI_PEND cleared; afterwards
INTE is also set if an EI was pending and i is not DI, and the next draws are others. -/
def Obligations.StepRunsDecodedInstruction : Prop :=
  ∀ (s : State) (i : Instr) (rest : List Byte), s.readyToFetch → decode s.fetchBytes = .ok (i, rest) →
      i.WellFormed →
      step s =
        match exec i { s with
          schedule := s.schedule.tail
          pc := s.pc + BitVec.ofNat 16 s.fetchBytes.length
          eiPend := false } with
        | .next t => .next { t with inte := t.inte || (s.eiPend && decide (i ≠ .di)), tick := t.tick + 1 }
        | .fault f => .fault f
        | .refused r => .refused r

/-- When nothing keeps the CPU from fetching and the bytes of the encoding of i stand at PC and the addresses after
it, modulo 65536, the step is exec of i between the beginning and the end of the step cycle. The instruction may
straddle the top of memory. -/
def Obligations.StepRunsInstructionAtPc : Prop :=
  ∀ (s : State) (i : Instr), s.readyToFetch →
      (∀ k (h : k < (encode i).length), s.load .fetch (s.pc + BitVec.ofNat 16 k) = (encode i)[k]) →
      step s =
        match exec i { s with
          schedule := s.schedule.tail
          pc := s.pc + BitVec.ofNat 16 (encode i).length
          eiPend := false } with
        | .next t => .next { t with inte := t.inte || (s.eiPend && decide (i ≠ .di)), tick := t.tick + 1 }
        | .fault f => .fault f
        | .refused r => .refused r

/-- A machine that is ready to fetch and reads one of the twelve unassigned bytes at PC faults with IllegalOpcode of
that byte (decision D5 of the spec, log 15); a step faults in no other case, and is refused only when an
acceptable interrupt's requester supplies something other than RST n (log 11). -/
def Obligations.OnlyUnassignedOpcodesFault : Prop :=
  (∀ s : State, s.readyToFetch → s.load .fetch s.pc ∈ unassignedOpcodes →
      step s = .fault (.illegalOpcode (s.load .fetch s.pc))) ∧
    (∀ (s : State) (f : Fault), step s = .fault f →
      s.readyToFetch ∧ s.load .fetch s.pc ∈ unassignedOpcodes ∧ f = .illegalOpcode (s.load .fetch s.pc)) ∧
    (∀ (s : State) (r : Refusal), step s = .refused r →
      ∃ code, s.acceptable = some (.other code) ∧ r = .interruptNotRst code)

/-- INTE, HALTED and EI_PEND are 0 after reset and PC is RESET_PC = 0000 (PC and EI_PEND are decision D3 of the
spec, log 3). Nothing is said of a register, a flag, SP or memory: their values at reset are the model's choice
(log 2, log 4). -/
def Obligations.ResetState : Prop :=
  State.reset.inte = false ∧ State.reset.halted = false ∧ State.reset.eiPend = false ∧
    State.reset.pc = 0x0000#16

/-- A step at a boundary where reset is asserted, whatever else is asserted and whatever the state, answers a next
state with INTE, HALTED and EI_PEND 0 and PC at RESET_PC; memory, the board and the outputs are as they were.
Nothing is said of the registers, SP and the flags (log 6). -/
def Obligations.ResetSignal : Prop :=
  ∀ s : State, s.pins.reset = true → ∃ t, step s = .next t ∧ t.inte = false ∧ t.halted = false ∧
      t.eiPend = false ∧ t.pc = s.board.resetPc ∧ t.mem = s.mem ∧ t.output = s.output ∧ t.ioIn = s.ioIn ∧
      t.board = s.board ∧ t.schedule = s.schedule.tail

/-- With INTE = 1, no EI pending, reset not asserted and INT asserted with RST n, the step pushes PC (high byte at
SP-1, low byte at SP-2), takes 2 from SP, clears INTE and HALTED and goes to 8n; registers, flags and every
other byte of memory are as they were. (Decision D13 of the spec, log 12.) (Of the stores: ROM keeps its byte by
R51 and R260; that an absent address keeps nothing and that a device is told of the byte is the model's choice,
log 9 and log 13; that a later fetch sees the store is decision D17 of the spec, log 27.) -/
def Obligations.InterruptAcceptance : Prop :=
  ∀ (s : State) (n : Fin 8), s.mem.wf → s.inte = true → s.eiPend = false → s.pins.reset = false →
      s.pins.int = some (.rst n) →
      ∃ t, step s = .next t ∧ t.pc.toNat = 8 * n.val ∧ t.sp = s.sp - 2#16 ∧ t.inte = false ∧ t.halted = false ∧
        t.eiPend = false ∧ t.regs = s.regs ∧ t.flags = s.flags ∧ t.board = s.board ∧ t.ioIn = s.ioIn ∧
        t.schedule = s.schedule.tail ∧
        StoresTwo (s.sp - 1#16) (hiByte s.pc) (s.sp - 2#16) (loByte s.pc) s t

/-- With INTE = 0 or an EI pending, a step at a boundary where INT is asserted, whatever the requester supplies, is
the step at the same boundary without INT, halted or not. With INTE = 1 and no EI pending a requester that
supplies another instruction is refused (log 11). -/
def Obligations.IntIsIgnoredUnlessAcceptable : Prop :=
  (∀ (s : State) (x : Supply) (later : List Pins), (s.inte = false ∨ s.eiPend = true) →
      step { s with schedule := { reset := false, int := some x } :: later } =
        step { s with schedule := Pins.idle :: later }) ∧
    (∀ (s : State) (code : List Byte), s.inte = true → s.eiPend = false → s.pins.reset = false →
      s.pins.int = some (.other code) → step s = .refused (.interruptNotRst code))

/-- HLT sets HALTED and changes nothing else. While HALTED = 1, at a boundary with neither reset nor an acceptable
interrupt, nothing of the machine changes (the boundary is passed). An accepted interrupt and a reset clear
HALTED. -/
def Obligations.HaltState : Prop :=
  (∀ s, exec .hlt s = .next { s with halted := true }) ∧
    (∀ s : State, s.halted = true → s.pins.reset = false → s.acceptable = none →
      step s = .next { s with schedule := s.schedule.tail }) ∧
    (∀ (s : State) (n : Fin 8), s.acceptable = some (.rst n) → ∃ t, step s = .next t ∧ t.halted = false) ∧
    (∀ s : State, s.pins.reset = true → ∃ t, step s = .next t ∧ t.halted = false)

/-- A machine that is halted with interrupts disabled is at the end of its run: after any number of steps at
boundaries where reset is not asserted, whatever INT does, it is the same machine but for the boundaries passed. -/
def Obligations.EndedRunNeverChanges : Prop :=
  ∀ (k : Nat) (s : State), s.ended = true → (∀ p ∈ s.schedule, p.reset = false) →
      Host.Core.run Sys2Proof.core k s = .next ({ s with schedule := s.schedule.drop k } : State)

/-- After the step that runs EI no interrupt can be accepted at the next boundary, whatever is asserted and whatever
INTE was. The step that runs the next instruction, unless it is DI, leaves INTE = 1, with an EI pending only if
it is itself EI. If it is DI, INTE is 0 and nothing is pending. -/
def Obligations.EiTakesEffectOneInstructionLate : Prop :=
  (∀ (s : State) (rest : List Byte), s.readyToFetch → decode s.fetchBytes = .ok (.ei, rest) →
      ∃ t, step s = .next t ∧ t.eiPend = true ∧ t.inte = (s.inte || s.eiPend) ∧
        ∀ later, State.acceptable { t with schedule := later } = none) ∧
    (∀ (s : State) (i : Instr) (rest : List Byte), s.readyToFetch → s.eiPend = true →
      decode s.fetchBytes = .ok (i, rest) → i ≠ .di →
      ∃ t, step s = .next t ∧ t.inte = true ∧ t.eiPend = decide (i = .ei)) ∧
    (∀ (s : State) (rest : List Byte), s.readyToFetch → decode s.fetchBytes = .ok (.di, rest) →
      ∃ t, step s = .next t ∧ t.inte = false ∧ t.eiPend = false)

/-- At reset memory is in canonical form, and the machine is not halted with an EI pending. -/
def Obligations.ResetMeetsInvariant : Prop :=
  State.reset.Inv

/-- From every state whose memory is in canonical form and in which no EI is pending while the CPU is halted, every
step that answers a next state answers one of the same kind. That EI_PEND is 0 once HLT has executed is the
spec's remark in its section on leaving the halt state. -/
def Obligations.StepKeepsInvariant : Prop :=
  ∀ s t : State, s.Inv → step s = .next t → t.Inv

/-- Every step that answers a next state leaves the board as it was, and the outputs before the step are the
beginning of the outputs after it. (That the parameters and the outputs are fields of the state is the model's
choice, log 1 and log 9.) -/
def Obligations.StepKeepsBoardAndOutputs : Prop :=
  ∀ s t : State, step s = .next t → t.board = s.board ∧ s.output <+: t.output

/-- From every state with canonical memory, whatever the instruction, interrupt or reset, every address that the
memory map makes ROM reads after the step what it read before. -/
def Obligations.RomKeepsItsBytes : Prop :=
  ∀ s t : State, s.mem.wf → step s = .next t →
      ∀ why x, s.memKind x = .rom → t.memKind x = .rom ∧ t.load why x = s.load why x

/-- If a step turns INTE from 0 to 1, an EI was pending and the step ran an instruction that is not DI; if it turns
INTE from 1 to 0, reset was asserted, or an interrupt was accepted, or the step ran DI. -/
def Obligations.InteChangesOnlyAsStated : Prop :=
  ∀ s t : State, step s = .next t →
      (s.inte = false → t.inte = true → s.eiPend = true ∧ s.readyToFetch ∧
        ∃ i rest, decode s.fetchBytes = .ok (i, rest) ∧ i ≠ .di) ∧
      (s.inte = true → t.inte = false →
        s.pins.reset = true ∨ (∃ n, s.acceptable = some (.rst n)) ∨
          (s.readyToFetch ∧ ∃ rest, decode s.fetchBytes = .ok (.di, rest)))

/-- If a step turns HALTED from 0 to 1 it ran HLT; if it turns HALTED from 1 to 0, reset was asserted or an
interrupt was accepted. -/
def Obligations.HaltedChangesOnlyAsStated : Prop :=
  ∀ s t : State, step s = .next t →
      (s.halted = false → t.halted = true → s.readyToFetch ∧ ∃ rest, decode s.fetchBytes = .ok (.hlt, rest)) ∧
      (s.halted = true → t.halted = false →
        s.pins.reset = true ∨ ∃ n, s.acceptable = some (.rst n))

/-- For every instruction that is not in the table's row of a flag, that flag is unchanged: C; Z and S; P (add,
subtract, compare, INR and DCR only when VARIANT = I8080; for compare that is decision D29 of the spec, log 29);
H (DAA only under DAA_H = carry3). -/
def Obligations.FlagsAreWrittenOnlyAsTabled : Prop :=
  ∀ (i : Instr) (s : State), ∃ t, exec i s = .next t ∧
      (writesC i.form = false → t.flags.c = s.flags.c) ∧
      (writesZS i.form = false → t.flags.z = s.flags.z ∧ t.flags.s = s.flags.s) ∧
      (writesP s.board.variant i.form = false → t.flags.p = s.flags.p) ∧
      (writesH s.board.daaH i.form = false → t.flags.h = s.flags.h)

/-- Every instruction other than LXI SP, SPHL, INX SP, DCX SP, PUSH, POP, CALL, the conditional calls, RET, the
conditional returns and RST leaves SP as it was. -/
def Obligations.SpIsWrittenOnlyAsListed : Prop :=
  ∀ (i : Instr) (s : State), writesSp i.form = false → ∃ t, exec i s = .next t ∧ t.sp = s.sp

/-- For every instruction of the table, every operand and every state, exec answers a next state; the board, the
boundaries to come and the index of the draws are as they were. -/
def Obligations.EveryInstructionCompletes : Prop :=
  ∀ (i : Instr) (s : State), ∃ t, exec i s = .next t ∧ t.board = s.board ∧ t.schedule = s.schedule ∧
      t.tick = s.tick

/-- From the same state an instruction leaves the same state on the 8080 and on the MYCPU80 but for P; P is the same
too unless the instruction adds, subtracts, compares, increments or decrements 8 bits, and then the MYCPU80
leaves P as it was. (That this holds of CMP and CPI too is the spec's decision: D8 for P on the 8080, D29 for P
on the MYCPU80, log 21 and log 29.) -/
def Obligations.VariantsDifferOnlyInP : Prop :=
  ∀ (i : Instr) (s : State), ∃ t u,
      exec i { s with board := { s.board with variant := .i8080 } } = .next t ∧
      exec i { s with board := { s.board with variant := .mycpu80 } } = .next u ∧
      u = { t with
        board := { t.board with variant := .mycpu80 }
        flags := { t.flags with p := if arithmeticP i.form then s.flags.p else t.flags.p } }

/-- The canonical form makes equal memories equal data: if every address reads the same in two memories in canonical
form, they are the same list. -/
def Obligations.CanonicalMemoryIsItsReads : Prop :=
  ∀ m n : Memory, m.wf → n.wf → (∀ a, m.read a = n.read a) → m = n

/-- Every MOV r1,r2 completes from every state with r1 holding the old r2; no other register, no flag, SP, PC,
memory byte or control state changes. Its one byte is 01 ddd sss. -/
def Obligations.MovRegisterToRegister : Prop :=
  ∀ (r1 r2 : Reg) (s : State),
      (∃ t, exec (Form.mov r1 r2).instr s = .next t ∧ t.reg r1 = s.reg r2 ∧ RegsOnly [r1] s t) ∧
      encode (Form.mov r1 r2).instr = [fieldByte 1 (regCode r1) (regCode r2)]

/-- Every MOV r,M completes from every state with r holding the byte at the address in HL before the instruction
(also for r = H and r = L); nothing else changes. Its one byte is 01 ddd 110. (That for r = H and r = L the
address is formed from the old HL is the spec's own inference: the operand is read before the destination is
written.) -/
def Obligations.MovFromMemory : Prop :=
  ∀ (r : Reg) (s : State),
      (∃ t, exec (Form.movRM r).instr s = .next t ∧
        t.reg r = s.load .data (s.reg .h ++ s.reg .l) ∧ RegsOnly [r] s t) ∧
      encode (Form.movRM r).instr = [fieldByte 1 (regCode r) 6]

/-- Every MVI r,B2 completes from every state with r holding B2, any value; nothing else changes. Its bytes are 00
ddd 110 and B2. -/
def Obligations.MoveImmediate : Prop :=
  ∀ (r : Reg) (d8 : Byte) (s : State),
      (∃ t, exec (Form.mvi r d8).instr s = .next t ∧ t.reg r = d8 ∧ RegsOnly [r] s t) ∧
      encode (Form.mvi r d8).instr = [fieldByte 0 (regCode r) 6, d8]

/-- LDAX B, LDAX D and LDA complete from every state with A holding the byte at BC, at DE, at the operand address;
nothing else changes. Their bytes are 0A, 1A, and 3A with the low address byte first. -/
def Obligations.LoadAccumulator : Prop :=
  ∀ (s : State) (a16 : Word),
      (∃ t, exec .ldaxB s = .next t ∧ t.reg .a = s.load .data (s.reg .b ++ s.reg .c) ∧ RegsOnly [.a] s t) ∧
      (∃ t, exec .ldaxD s = .next t ∧ t.reg .a = s.load .data (s.reg .d ++ s.reg .e) ∧ RegsOnly [.a] s t) ∧
      (∃ t, exec (.lda a16) s = .next t ∧ t.reg .a = s.load .data a16 ∧ RegsOnly [.a] s t) ∧
      encode .ldaxB = [0x0A] ∧ encode .ldaxD = [0x1A] ∧
      encode (.lda a16) = [0x3A, BitVec.ofNat 8 (a16.toNat % 256), BitVec.ofNat 8 (a16.toNat / 256)]

/-- Each completes from every state and stores exactly one byte: MOV M,r and MVI M at HL, STAX at BC or DE, STA at
the operand address. No register, flag, SP or PC changes, and every other byte of memory reads as before; ROM
keeps its byte, a device is told. (ROM keeps its byte by R51 and R260; that an absent address keeps nothing and
that a device is told of the byte is the model's choice, log 9 and log 13; that a later fetch sees the store is
decision D17 of the spec, log 27.) -/
def Obligations.StoreOneByte : Prop :=
  ∀ (s : State) (a16 : Word) (d8 : Byte), s.mem.wf →
      (∀ r : Reg, (∃ t, exec (Form.movMR r).instr s = .next t ∧
        StoresByte (s.reg .h ++ s.reg .l) (s.reg r) s t ∧ MemoryOnly s t) ∧
        encode (Form.movMR r).instr = [fieldByte 1 6 (regCode r)]) ∧
      (∃ t, exec (.mviM d8) s = .next t ∧ StoresByte (s.reg .h ++ s.reg .l) d8 s t ∧ MemoryOnly s t) ∧
      (∃ t, exec .staxB s = .next t ∧ StoresByte (s.reg .b ++ s.reg .c) (s.reg .a) s t ∧ MemoryOnly s t) ∧
      (∃ t, exec .staxD s = .next t ∧ StoresByte (s.reg .d ++ s.reg .e) (s.reg .a) s t ∧ MemoryOnly s t) ∧
      (∃ t, exec (.sta a16) s = .next t ∧ StoresByte a16 (s.reg .a) s t ∧ MemoryOnly s t) ∧
      encode (.mviM d8) = [0x36, d8] ∧ encode .staxB = [0x02] ∧ encode .staxD = [0x12] ∧
      encode (.sta a16) = [0x32, BitVec.ofNat 8 (a16.toNat % 256), BitVec.ofNat 8 (a16.toNat / 256)]

/-- LXI B, D, H load the high byte of the operand into B, D, H and the low byte into C, E, L; LXI SP loads SP; SPHL
copies HL to SP. Nothing else changes. -/
def Obligations.LoadSixteenBits : Prop :=
  ∀ (s : State) (d16 : Word),
      (∃ t, exec (.lxiB d16) s = .next t ∧ t.reg .b = d16.extractLsb' 8 8 ∧ t.reg .c = d16.extractLsb' 0 8 ∧
        RegsOnly [.b, .c] s t) ∧
      (∃ t, exec (.lxiD d16) s = .next t ∧ t.reg .d = d16.extractLsb' 8 8 ∧ t.reg .e = d16.extractLsb' 0 8 ∧
        RegsOnly [.d, .e] s t) ∧
      (∃ t, exec (.lxiH d16) s = .next t ∧ t.reg .h = d16.extractLsb' 8 8 ∧ t.reg .l = d16.extractLsb' 0 8 ∧
        RegsOnly [.h, .l] s t) ∧
      (∃ t, exec (.lxiSP d16) s = .next t ∧ t = { s with sp := d16 }) ∧
      (∃ t, exec .sphl s = .next t ∧ t = { s with sp := s.reg .h ++ s.reg .l }) ∧
      encode (.lxiB d16) = [0x01, d16.extractLsb' 0 8, d16.extractLsb' 8 8] ∧
      encode (.lxiD d16) = [0x11, d16.extractLsb' 0 8, d16.extractLsb' 8 8] ∧
      encode (.lxiH d16) = [0x21, d16.extractLsb' 0 8, d16.extractLsb' 8 8] ∧
      encode (.lxiSP d16) = [0x31, d16.extractLsb' 0 8, d16.extractLsb' 8 8] ∧ encode .sphl = [0xF9]

/-- LHLD loads L from the operand address and H from the next one modulo 65536; SHLD stores L and H there. Nothing
else changes: SHLD leaves every other byte of memory and every register. (Of the stores: ROM keeps its byte by
R51 and R260; that an absent address keeps nothing and that a device is told of the byte is the model's choice,
log 9 and log 13; that a later fetch sees the store is decision D17 of the spec, log 27.) -/
def Obligations.LoadAndStoreHlDirect : Prop :=
  ∀ (s : State) (a16 : Word),
      (∃ t, exec (.lhld a16) s = .next t ∧ t.reg .l = s.load .data a16 ∧
        t.reg .h = s.load .data (BitVec.ofNat 16 ((a16.toNat + 1) % 65536)) ∧ RegsOnly [.h, .l] s t) ∧
      (s.mem.wf → ∃ t, exec (.shld a16) s = .next t ∧
        StoresTwo a16 (s.reg .l) (BitVec.ofNat 16 ((a16.toNat + 1) % 65536)) (s.reg .h) s t ∧ MemoryOnly s t)

/-- PUSH stores the high register at SP-1 and the low one at SP-2 and leaves SP less 2 (decision D10 of the spec,
log 18); PUSH PSW stores A and a byte whose bits 7, 6, 4, 2, 0 are S, Z, H, P, C (the other three are free, log
7). No register, flag or PC changes, nor any other byte of memory. (Of the stores: ROM keeps its byte by R51 and
R260; that an absent address keeps nothing and that a device is told of the byte is the model's choice, log 9
and log 13; that a later fetch sees the store is decision D17 of the spec, log 27.) -/
def Obligations.PushStoresPair : Prop :=
  ∀ s : State, s.mem.wf →
      (∀ p : Pair, ∃ t, exec (Form.push p).instr s = .next t ∧ t.sp = s.sp - 2#16 ∧
        StoresTwo (s.sp - 1#16) (s.reg (pairHi p)) (s.sp - 2#16) (s.reg (pairLo p)) s t ∧
        SameRegsBut [] s t ∧ t.flags = s.flags ∧ t.pc = s.pc ∧ SameControl s t) ∧
      (∃ t v, exec .pushPSW s = .next t ∧ t.sp = s.sp - 2#16 ∧
        StoresTwo (s.sp - 1#16) (s.reg .a) (s.sp - 2#16) v s t ∧
        v.getLsbD 7 = s.flags.s ∧ v.getLsbD 6 = s.flags.z ∧ v.getLsbD 4 = s.flags.h ∧ v.getLsbD 2 = s.flags.p ∧
        v.getLsbD 0 = s.flags.c ∧
        SameRegsBut [] s t ∧ t.flags = s.flags ∧ t.pc = s.pc ∧ SameControl s t)

/-- POP loads the low register from SP and the high one from SP+1 and leaves SP plus 2 (log 18); POP PSW loads the
five flags from bits 7, 6, 4, 2, 0 of the byte at SP and A from SP+1. Memory, PC, the other registers and, but
for POP PSW, the flags are unchanged. -/
def Obligations.PopLoadsPair : Prop :=
  ∀ s : State,
      (∀ p : Pair, ∃ t, exec (Form.pop p).instr s = .next t ∧ t.sp = s.sp + 2#16 ∧
        t.reg (pairLo p) = s.load .data s.sp ∧ t.reg (pairHi p) = s.load .data (s.sp + 1#16) ∧
        SameRegsBut [pairHi p, pairLo p] s t ∧ t.flags = s.flags ∧ t.pc = s.pc ∧ StoresNothing s t ∧
        SameControl s t) ∧
      (∃ t, exec .popPSW s = .next t ∧ t.sp = s.sp + 2#16 ∧ t.reg .a = s.load .data (s.sp + 1#16) ∧
        t.flags.s = (s.load .data s.sp).getLsbD 7 ∧ t.flags.z = (s.load .data s.sp).getLsbD 6 ∧
        t.flags.h = (s.load .data s.sp).getLsbD 4 ∧ t.flags.p = (s.load .data s.sp).getLsbD 2 ∧
        t.flags.c = (s.load .data s.sp).getLsbD 0 ∧
        SameRegsBut [.a] s t ∧ t.pc = s.pc ∧ StoresNothing s t ∧ SameControl s t)

/-- With RAM at SP-1 and SP-2, PUSH of a pair followed by POP of any pair leaves the first pair's value in the
second and SP as it was; PUSH PSW followed by POP PSW leaves A, the flags and SP as they were, whatever the
unused bits are. -/
def Obligations.PushThenPopCopies : Prop :=
  ∀ s : State, s.mem.wf → s.memKind (s.sp - 1#16) = .ram → s.memKind (s.sp - 2#16) = .ram →
      (∀ p q : Pair, ∃ t u, exec (Form.push p).instr s = .next t ∧ exec (Form.pop q).instr t = .next u ∧
        u.pair q = s.pair p ∧ u.sp = s.sp ∧ u.flags = s.flags ∧ SameRegsBut [pairHi q, pairLo q] s u) ∧
      (∃ t u, exec .pushPSW s = .next t ∧ exec .popPSW t = .next u ∧
        u.regs = s.regs ∧ u.flags = s.flags ∧ u.sp = s.sp)

/-- XCHG completes from every state with H and D, L and E exchanged; nothing else changes, and a second XCHG
restores the state. Its byte is EB. -/
def Obligations.ExchangePairs : Prop :=
  ∀ s : State, (∃ t, exec .xchg s = .next t ∧ t.reg .h = s.reg .d ∧ t.reg .l = s.reg .e ∧ t.reg .d = s.reg .h ∧
        t.reg .e = s.reg .l ∧ RegsOnly [.h, .l, .d, .e] s t ∧ exec .xchg t = .next s) ∧
      encode .xchg = [0xEB]

/-- XTHL completes from every state: L takes the byte at SP and H the byte at SP+1 modulo 65536, where the old L and
H are stored; SP, the flags, PC, the other registers and every other byte of memory are unchanged. (Of the
stores: ROM keeps its byte by R51 and R260; that an absent address keeps nothing and that a device is told of
the byte is the model's choice, log 9 and log 13; that a later fetch sees the store is decision D17 of the spec,
log 27.) -/
def Obligations.ExchangeTopOfStack : Prop :=
  ∀ s : State, s.mem.wf → ∃ t, exec .xthl s = .next t ∧ t.reg .l = s.load .data s.sp ∧
      t.reg .h = s.load .data (s.sp + 1#16) ∧ StoresTwo s.sp (s.reg .l) (s.sp + 1#16) (s.reg .h) s t ∧
      SameRegsBut [.h, .l] s t ∧ t.flags = s.flags ∧ t.sp = s.sp ∧ t.pc = s.pc ∧ SameControl s t

/-- Every ADD and ADI completes from every state: A holds the sum modulo 256; C is the carry out of bit 7, H the
carry out of bit 3, Z and S follow the result, P its parity on the 8080 and its old value on the MYCPU80.
Nothing else changes. -/
def Obligations.AddInstructions : Prop :=
  ∀ (o : Operand) (s : State),
      let x := (s.reg .a).toNat
      let y := (match o with
        | .reg r => s.reg r
        | .mem => s.load .data (s.reg .h ++ s.reg .l)
        | .imm d8 => d8).toNat
      (∃ t, exec (Form.alu .add o).instr s = .next t ∧ (t.reg .a).toNat = (x + y) % 256 ∧
        (t.flags.c = true ↔ 256 ≤ x + y) ∧ (t.flags.h = true ↔ 16 ≤ x % 16 + y % 16) ∧
        ArithmeticFlags s.board.variant ((x + y) % 256) s.flags t.flags ∧ RegsAndFlagsOnly [.a] s t) ∧
      encode (Form.alu .add o).instr =
        (match o with
        | .reg r => [fieldByte 2 0 (regCode r)]
        | .mem => [0x86]
        | .imm d8 => [0xC6, d8])

/-- As ADD with the carry flag added; the carry takes part in C and in H (decision D27 of the spec, log 22). Nothing
else changes. -/
def Obligations.AddWithCarryInstructions : Prop :=
  ∀ (o : Operand) (s : State),
      let x := (s.reg .a).toNat
      let y := (s.operand o).toNat
      let c := if s.flags.c then 1 else 0
      ∃ t, exec (Form.alu .adc o).instr s = .next t ∧ (t.reg .a).toNat = (x + y + c) % 256 ∧
        (t.flags.c = true ↔ 256 ≤ x + y + c) ∧ (t.flags.h = true ↔ 16 ≤ x % 16 + y % 16 + c) ∧
        ArithmeticFlags s.board.variant ((x + y + c) % 256) s.flags t.flags ∧ RegsAndFlagsOnly [.a] s t

/-- A holds the difference modulo 256 (less the carry flag for SBB and SBI); C is the borrow out of bit 7, H the
borrow from bit 4 into bit 3 (the source's sense, log 17; that the carry-in takes part is decision D27, log 22).
Nothing else changes. -/
def Obligations.SubtractInstructions : Prop :=
  ∀ (o : Operand) (s : State) (borrow : Bool),
      let x := (s.reg .a).toNat
      let y := (s.operand o).toNat
      let c := if borrow && s.flags.c then 1 else 0
      ∃ t, exec (Form.alu (if borrow then .sbb else .sub) o).instr s = .next t ∧
        (t.reg .a).toNat = (x + 512 - y - c) % 256 ∧
        (t.flags.c = true ↔ x < y + c) ∧ (t.flags.h = true ↔ x % 16 < y % 16 + c) ∧
        ArithmeticFlags s.board.variant ((x + 512 - y - c) % 256) s.flags t.flags ∧ RegsAndFlagsOnly [.a] s t

/-- C = 1 exactly when A is below the operand, Z = 1 exactly when they are equal, S and P from the difference, H on
a borrow from bit 4; A and everything else are unchanged. (That all flags are those of SUB is decision D8 of the
spec, log 21.) -/
def Obligations.CompareInstructions : Prop :=
  ∀ (o : Operand) (s : State),
      let x := (s.reg .a).toNat
      let y := (s.operand o).toNat
      ∃ t, exec (Form.alu .cmp o).instr s = .next t ∧
        (t.flags.c = true ↔ x < y) ∧ (t.flags.z = true ↔ x = y) ∧ (t.flags.h = true ↔ x % 16 < y % 16) ∧
        ArithmeticFlags s.board.variant ((x + 256 - y) % 256) s.flags t.flags ∧ RegsAndFlagsOnly [] s t

/-- Each completes from every state: bit k of A is the AND, OR or exclusive OR of bit k of A and of the operand; Z,
S and P follow the result on both machines, C and H become 0. Nothing else changes. -/
def Obligations.LogicalInstructions : Prop :=
  ∀ (o : Operand) (s : State),
      let y : Byte := match o with
        | .reg r => s.reg r
        | .mem => s.load .data (s.reg .h ++ s.reg .l)
        | .imm d8 => d8
      (∃ t, exec (Form.alu .ana o).instr s = .next t ∧
        (∀ k, (t.reg .a).getLsbD k = ((s.reg .a).getLsbD k && y.getLsbD k)) ∧
        ResultFlags (t.reg .a).toNat t.flags ∧ t.flags.c = false ∧ t.flags.h = false ∧ RegsAndFlagsOnly [.a] s t) ∧
      (∃ t, exec (Form.alu .ora o).instr s = .next t ∧
        (∀ k, (t.reg .a).getLsbD k = ((s.reg .a).getLsbD k || y.getLsbD k)) ∧
        ResultFlags (t.reg .a).toNat t.flags ∧ t.flags.c = false ∧ t.flags.h = false ∧ RegsAndFlagsOnly [.a] s t) ∧
      (∃ t, exec (Form.alu .xra o).instr s = .next t ∧
        (∀ k, (t.reg .a).getLsbD k = ((s.reg .a).getLsbD k ^^ y.getLsbD k)) ∧
        ResultFlags (t.reg .a).toNat t.flags ∧ t.flags.c = false ∧ t.flags.h = false ∧ RegsAndFlagsOnly [.a] s t) ∧
      (match o with
        | .reg r => encode (Form.alu .ana o).instr = [fieldByte 2 4 (regCode r)] ∧
            encode (Form.alu .xra o).instr = [fieldByte 2 5 (regCode r)] ∧
            encode (Form.alu .ora o).instr = [fieldByte 2 6 (regCode r)]
        | .mem => encode (Form.alu .ana o).instr = [0xA6] ∧ encode (Form.alu .xra o).instr = [0xAE] ∧
            encode (Form.alu .ora o).instr = [0xB6]
        | .imm d8 => encode (Form.alu .ana o).instr = [0xE6, d8] ∧ encode (Form.alu .xra o).instr = [0xEE, d8] ∧
            encode (Form.alu .ora o).instr = [0xF6, d8])

/-- INR r and DCR r complete from every state for all 7 registers: the register changes by 1 modulo 256, H is the
carry from or the borrow into bit 3, Z and S follow the result, P its parity on the 8080 only; C and everything
else are unchanged. -/
def Obligations.IncrementAndDecrementRegister : Prop :=
  ∀ (r : Reg) (s : State),
      let x := (s.reg r).toNat
      (∃ t, exec (Form.inr r).instr s = .next t ∧ (t.reg r).toNat = (x + 1) % 256 ∧
        (t.flags.h = true ↔ x % 16 = 15) ∧ ArithmeticFlags s.board.variant ((x + 1) % 256) s.flags t.flags ∧
        t.flags.c = s.flags.c ∧ RegsAndFlagsOnly [r] s t) ∧
      (∃ t, exec (Form.dcr r).instr s = .next t ∧ (t.reg r).toNat = (x + 255) % 256 ∧
        (t.flags.h = true ↔ x % 16 = 0) ∧ ArithmeticFlags s.board.variant ((x + 255) % 256) s.flags t.flags ∧
        t.flags.c = s.flags.c ∧ RegsAndFlagsOnly [r] s t) ∧
      encode (Form.inr r).instr = [fieldByte 0 (regCode r) 4] ∧
      encode (Form.dcr r).instr = [fieldByte 0 (regCode r) 5]

/-- INR M and DCR M complete from every state and store the byte at HL changed by 1 modulo 256 at the same address;
flags as INR r and DCR r. No register, SP or PC changes, and every other byte of memory reads as before. (ROM
keeps its byte by R51 and R260; that an absent address keeps nothing and that a device is told of the byte is
the model's choice, log 9 and log 13; that a later fetch sees the store is decision D17 of the spec, log 27.) -/
def Obligations.IncrementAndDecrementMemory : Prop :=
  ∀ s : State, s.mem.wf →
      let m : Word := s.reg .h ++ s.reg .l
      let x := (s.load .data m).toNat
      (∃ t, exec .inrM s = .next t ∧ StoresByte m (BitVec.ofNat 8 ((x + 1) % 256)) s t ∧
        (t.flags.h = true ↔ x % 16 = 15) ∧ ArithmeticFlags s.board.variant ((x + 1) % 256) s.flags t.flags ∧
        t.flags.c = s.flags.c ∧ SameRegsBut [] s t ∧ t.sp = s.sp ∧ t.pc = s.pc ∧ SameControl s t) ∧
      (∃ t, exec .dcrM s = .next t ∧ StoresByte m (BitVec.ofNat 8 ((x + 255) % 256)) s t ∧
        (t.flags.h = true ↔ x % 16 = 0) ∧ ArithmeticFlags s.board.variant ((x + 255) % 256) s.flags t.flags ∧
        t.flags.c = s.flags.c ∧ SameRegsBut [] s t ∧ t.sp = s.sp ∧ t.pc = s.pc ∧ SameControl s t) ∧
      encode .inrM = [0x34] ∧ encode .dcrM = [0x35]

/-- The low correction 6 applies when H = 1 or the low digit exceeds 9, the high correction 60 when C = 1, or the
high digit exceeds 9, or is 9 with a low digit above 9. C is set by the high correction and never cleared; H is
unchanged, or the carry of the low correction under DAA_H = carry3. (The algorithm is general knowledge that the
spec adopts by D9, log 14.) -/
def Obligations.DecimalAdjust : Prop :=
  ∀ s : State,
      let x := (s.reg .a).toNat
      let low : Prop := s.flags.h = true ∨ 9 < x % 16
      let high : Prop := s.flags.c = true ∨ 9 < x / 16 ∨ (9 ≤ x / 16 ∧ 9 < x % 16)
      ∃ t corr, exec .daa s = .next t ∧
        (low → high → corr = 0x66) ∧ (low → ¬ high → corr = 0x06) ∧ (¬ low → high → corr = 0x60) ∧
        (¬ low → ¬ high → corr = 0) ∧
        (t.reg .a).toNat = (x + corr) % 256 ∧ (t.flags.c = true ↔ high) ∧
        ResultFlags ((x + corr) % 256) t.flags ∧
        (s.board.daaH = .unchanged → t.flags.h = s.flags.h) ∧
        (s.board.daaH = .carry3 → (t.flags.h = true ↔ 16 ≤ x % 16 + corr % 16)) ∧
        RegsAndFlagsOnly [.a] s t

/-- If A and the operand hold two BCD digits each, ADD or ADI followed by DAA leaves in A the two BCD digits of the
sum and in C whether it reached 100; ADC and ACI likewise with the carry added. This is what the manual says DAA
is for; the algorithm that achieves it is decision D9 of the spec (log 14). -/
def Obligations.DaaGivesBcdSum : Prop :=
  ∀ (s : State) (o : Operand) (withCarry : Bool) (x y : Nat), x < 100 → y < 100 →
      s.reg .a = packedBcd x → s.operand o = packedBcd y →
      let sum := x + y + (if withCarry && s.flags.c then 1 else 0)
      ∃ t u, exec (Form.alu (if withCarry then .adc else .add) o).instr s = .next t ∧ exec .daa t = .next u ∧
        u.reg .a = packedBcd (sum % 100) ∧ (u.flags.c = true ↔ 100 ≤ sum)

/-- CMA inverts every bit of A and changes no flag; CMC inverts C and STC sets it, no other flag changes; NOP
changes nothing. Their bytes are 2F, 3F, 37, 00. -/
def Obligations.ComplementAndCarryInstructions : Prop :=
  ∀ s : State,
      (∃ t, exec .cma s = .next t ∧ (t.reg .a).toNat = 255 - (s.reg .a).toNat ∧ RegsOnly [.a] s t) ∧
      exec .cmc s = .next { s with flags := { s.flags with c := !s.flags.c } } ∧
      exec .stc s = .next { s with flags := { s.flags with c := true } } ∧
      exec .nop s = .next s ∧
      encode .cma = [0x2F] ∧ encode .cmc = [0x3F] ∧ encode .stc = [0x37] ∧ encode .nop = [0x00]

/-- HLT sets HALTED, DI clears INTE, EI sets EI_PEND; nothing else changes in the operation itself (what the step
cycle adds is stated of the step). -/
def Obligations.HltDiEi : Prop :=
  ∀ s : State, exec .hlt s = .next { s with halted := true } ∧ exec .di s = .next { s with inte := false } ∧
      exec .ei s = .next { s with eiPend := true }

/-- HL holds the sum modulo 65536; C is the carry out of bit 15 and H the carry out of bit 11, each 0 without it
(decision D7 of the spec, log 20); S, Z, P and everything else are unchanged, the other operand too unless it is
HL. -/
def Obligations.DoubleAdd : Prop :=
  ∀ (p : PairSp) (s : State),
      let x := (s.reg .h).toNat * 256 + (s.reg .l).toNat
      let y := (s.pairSp p).toNat
      ∃ t, exec (Form.dad p).instr s = .next t ∧
        (t.reg .h).toNat * 256 + (t.reg .l).toNat = (x + y) % 65536 ∧
        (t.flags.c = true ↔ 65536 ≤ x + y) ∧ (t.flags.h = true ↔ 4096 ≤ x % 4096 + y % 4096) ∧
        t.flags.s = s.flags.s ∧ t.flags.z = s.flags.z ∧ t.flags.p = s.flags.p ∧ RegsAndFlagsOnly [.h, .l] s t

/-- For BC, DE, HL: the high and low register together change by 1 modulo 65536; for SP: SP does. No flag, no other
register, no memory byte, no PC changes. (The 16-bit wrap is decision D2 of the spec, log 23.) -/
def Obligations.IncrementAndDecrementPair : Prop :=
  (∀ (p : Pair) (s : State),
      let x := (s.reg (pairHi p)).toNat * 256 + (s.reg (pairLo p)).toNat
      let q : PairSp := match p with
        | .bc => .bc
        | .de => .de
        | .hl => .hl
      (∃ t, exec (Form.inx q).instr s = .next t ∧
        (t.reg (pairHi p)).toNat * 256 + (t.reg (pairLo p)).toNat = (x + 1) % 65536 ∧
        RegsOnly [pairHi p, pairLo p] s t) ∧
      (∃ t, exec (Form.dcx q).instr s = .next t ∧
        (t.reg (pairHi p)).toNat * 256 + (t.reg (pairLo p)).toNat = (x + 65535) % 65536 ∧
        RegsOnly [pairHi p, pairLo p] s t)) ∧
    (∀ s : State, exec .inxSP s = .next { s with sp := BitVec.ofNat 16 (s.sp.toNat + 1) } ∧
      exec .dcxSP s = .next { s with sp := BitVec.ofNat 16 (s.sp.toNat + 65535) })

/-- RLC and RRC rotate the eight bits of A, RAL and RAR the nine bits of C and A; C takes the bit that falls out. S,
Z, H, P and everything else are unchanged. (That RRC's bit 0 goes to bit 7 is decision D12 of the spec, log 19.) -/
def Obligations.RotateInstructions : Prop :=
  ∀ s : State,
      let x := (s.reg .a).toNat
      let c := if s.flags.c then 1 else 0
      let kept := fun t : State => t.flags.s = s.flags.s ∧ t.flags.z = s.flags.z ∧ t.flags.h = s.flags.h ∧
        t.flags.p = s.flags.p ∧ RegsAndFlagsOnly [.a] s t
      (∃ t, exec .rlc s = .next t ∧ (t.reg .a).toNat = x * 2 % 256 + x / 128 ∧
        (t.flags.c = true ↔ 128 ≤ x) ∧ kept t) ∧
      (∃ t, exec .ral s = .next t ∧ (t.reg .a).toNat = x * 2 % 256 + c ∧
        (t.flags.c = true ↔ 128 ≤ x) ∧ kept t) ∧
      (∃ t, exec .rrc s = .next t ∧ (t.reg .a).toNat = x / 2 + x % 2 * 128 ∧
        (t.flags.c = true ↔ x % 2 = 1) ∧ kept t) ∧
      (∃ t, exec .rar s = .next t ∧ (t.reg .a).toNat = x / 2 + c * 128 ∧
        (t.flags.c = true ↔ x % 2 = 1) ∧ kept t)

/-- RAL then RAR, and RAR then RAL, restore the whole state; RLC then RRC, and RRC then RLC, restore A; nine RAL in
a row restore the whole state. -/
def Obligations.RotatesUndoEachOther : Prop :=
  ∀ s : State,
      (∃ t, exec .ral s = .next t ∧ exec .rar t = .next s) ∧ (∃ t, exec .rar s = .next t ∧ exec .ral t = .next s) ∧
      (∃ t u, exec .rlc s = .next t ∧ exec .rrc t = .next u ∧ u.reg .a = s.reg .a) ∧
      (∃ t u, exec .rrc s = .next t ∧ exec .rlc t = .next u ∧ u.reg .a = s.reg .a) ∧
      ((List.range 9).foldl (fun r _ => match r with
        | .next u => exec .ral u
        | .fault f => .fault f
        | .refused x => .refused x) (Host.Outcome.next s : Result)) = .next s

/-- JMP goes to its operand address, a conditional jump does when its flag stands as its condition says and else
leaves PC past the instruction, PCHL goes to HL. No flag, register, SP or memory byte changes. The bytes are C3,
11 ccc 010 and E9, the low address byte first. -/
def Obligations.Jumps : Prop :=
  ∀ (s : State) (a16 : Word),
      let lo : Byte := a16.extractLsb' 0 8
      let hi : Byte := a16.extractLsb' 8 8
      let jumpsWhen := fun (i : Instr) (taken : Bool) => ∃ t, exec i s = .next t ∧
        t.pc = (if taken then a16 else s.pc) ∧ PcOnly s t
      jumpsWhen (.jmp a16) true ∧ jumpsWhen (.jnz a16) (!s.flags.z) ∧ jumpsWhen (.jz a16) s.flags.z ∧
      jumpsWhen (.jnc a16) (!s.flags.c) ∧ jumpsWhen (.jc a16) s.flags.c ∧ jumpsWhen (.jpo a16) (!s.flags.p) ∧
      jumpsWhen (.jpe a16) s.flags.p ∧ jumpsWhen (.jp a16) (!s.flags.s) ∧ jumpsWhen (.jm a16) s.flags.s ∧
      (∃ t, exec .pchl s = .next t ∧ t.pc = s.reg .h ++ s.reg .l ∧ PcOnly s t) ∧
      encode (.jmp a16) = [0xC3, lo, hi] ∧ encode (.jnz a16) = [0xC2, lo, hi] ∧ encode (.jz a16) = [0xCA, lo, hi] ∧
      encode (.jnc a16) = [0xD2, lo, hi] ∧ encode (.jc a16) = [0xDA, lo, hi] ∧ encode (.jpo a16) = [0xE2, lo, hi] ∧
      encode (.jpe a16) = [0xEA, lo, hi] ∧ encode (.jp a16) = [0xF2, lo, hi] ∧ encode (.jm a16) = [0xFA, lo, hi] ∧
      encode .pchl = [0xE9]

/-- CALL, and a conditional call whose condition holds, store the address of the next instruction (high byte at
SP-1, low byte at SP-2: decision D11 of the spec, log 18), take 2 from SP and go to the target; no register or
flag and no other byte of memory changes. A conditional call whose condition does not hold changes nothing. (Of
the stores: ROM keeps its byte by R51 and R260; that an absent address keeps nothing and that a device is told
of the byte is the model's choice, log 9 and log 13; that a later fetch sees the store is decision D17 of the
spec, log 27.) -/
def Obligations.Calls : Prop :=
  ∀ (s : State) (a16 : Word), s.mem.wf →
      let calls := fun i : Instr => ∃ t, exec i s = .next t ∧ t.pc = a16 ∧ t.sp = s.sp - 2#16 ∧
        StoresTwo (s.sp - 1#16) (s.pc.extractLsb' 8 8) (s.sp - 2#16) (s.pc.extractLsb' 0 8) s t ∧
        SameRegsBut [] s t ∧ t.flags = s.flags ∧ SameControl s t
      let callsWhen := fun (i : Instr) (taken : Bool) => (taken = true → calls i) ∧
        (taken = false → exec i s = .next s)
      calls (.call a16) ∧ callsWhen (.cnz a16) (!s.flags.z) ∧ callsWhen (.cz a16) s.flags.z ∧
      callsWhen (.cnc a16) (!s.flags.c) ∧ callsWhen (.cc a16) s.flags.c ∧ callsWhen (.cpo a16) (!s.flags.p) ∧
      callsWhen (.cpe a16) s.flags.p ∧ callsWhen (.cp a16) (!s.flags.s) ∧ callsWhen (.cm a16) s.flags.s

/-- RET, and a conditional return whose condition holds, load PC from the bytes at SP (low) and SP+1 (high) and add
2 to SP; no register, flag or memory byte changes. A conditional return whose condition does not hold changes
nothing. -/
def Obligations.Returns : Prop :=
  ∀ s : State,
      let returns := fun i : Instr => ∃ t, exec i s = .next t ∧
        t.pc = s.load .data (s.sp + 1#16) ++ s.load .data s.sp ∧ t.sp = s.sp + 2#16 ∧
        SameRegsBut [] s t ∧ t.flags = s.flags ∧ StoresNothing s t ∧ SameControl s t
      let returnsWhen := fun (i : Instr) (taken : Bool) => (taken = true → returns i) ∧
        (taken = false → exec i s = .next s)
      returns .ret ∧ returnsWhen .rnz (!s.flags.z) ∧ returnsWhen .rz s.flags.z ∧
      returnsWhen .rnc (!s.flags.c) ∧ returnsWhen .rc s.flags.c ∧ returnsWhen .rpo (!s.flags.p) ∧
      returnsWhen .rpe s.flags.p ∧ returnsWhen .rp (!s.flags.s) ∧ returnsWhen .rm s.flags.s

/-- For n = 0 to 7, RST n performs exactly the operation of CALL 8n (its byte is 11 nnn 111), so it completes with
PC at 8n, SP less 2, and no register, flag or control state changed; what the call stores is stated of the
calls. -/
def Obligations.RestartIsCall : Prop :=
  ∀ (n : Fin 8) (s : State),
      (∃ t, exec (Form.rst n).instr s = .next t ∧ exec (.call (BitVec.ofNat 16 (8 * n.val))) s = .next t ∧
        t.pc.toNat = 8 * n.val ∧ t.sp = s.sp - 2#16 ∧ t.regs = s.regs ∧ t.flags = s.flags ∧ SameControl s t) ∧
      encode (Form.rst n).instr = [fieldByte 3 (BitVec.ofNat 3 n.val) 7]

/-- With RAM at SP-1 and SP-2, a RET right after CALL, RST n or the acceptance of an interrupt restores PC and SP,
and registers and flags are as they were. -/
def Obligations.CallThenReturn : Prop :=
  ∀ (s : State) (a16 : Word) (n : Fin 8), s.mem.wf → s.memKind (s.sp - 1#16) = .ram →
      s.memKind (s.sp - 2#16) = .ram →
      let back := fun t : State => ∃ u, exec .ret t = .next u ∧ u.pc = s.pc ∧ u.sp = s.sp ∧ u.regs = s.regs ∧
        u.flags = s.flags
      (∃ t, exec (.call a16) s = .next t ∧ back t) ∧ (∃ t, exec (Form.rst n).instr s = .next t ∧ back t) ∧
      (s.acceptable = some (.rst n) → ∃ t, step s = .next t ∧ back t)

/-- IN loads A with the answer the environment has ready and uses it up, or, when none is ready, with some byte (a
free value, log 8); OUT appends one event with the port and A. No flag, other register, SP, PC or memory byte
changes. -/
def Obligations.InputAndOutput : Prop :=
  ∀ (s : State) (port : Byte),
      (∃ t v, exec (.inPort port) s = .next t ∧ t.reg .a = v ∧ (∀ x rest, s.ioIn = x :: rest → v = x) ∧
        t.ioIn = s.ioIn.tail ∧ SameRegsBut [.a] s t ∧ t.flags = s.flags ∧ t.sp = s.sp ∧ t.pc = s.pc ∧
        StoresNothing s t ∧ SameControl { s with ioIn := s.ioIn.tail } t) ∧
      exec (.outPort port) s = .next { s with output := s.output ++ [.ioWrite port (s.reg .a)] }
end

