-- ==== Sys2Proof/Laws/State.lean ====
section
/-! SUPPORT. For every update of the state, what each field holds afterwards. -/

namespace Sys2Proof.Laws

open Sys2Proof Sys2Proof.Machine

/-! ### `setReg` -/

@[simp] theorem setReg_flags (s : State) (r : Reg) (v : Byte) : (s.setReg r v).flags = s.flags := by cases r <;> rfl
@[simp] theorem setReg_sp (s : State) (r : Reg) (v : Byte) : (s.setReg r v).sp = s.sp := by cases r <;> rfl
@[simp] theorem setReg_pc (s : State) (r : Reg) (v : Byte) : (s.setReg r v).pc = s.pc := by cases r <;> rfl
@[simp] theorem setReg_inte (s : State) (r : Reg) (v : Byte) : (s.setReg r v).inte = s.inte := by cases r <;> rfl
@[simp] theorem setReg_eiPend (s : State) (r : Reg) (v : Byte) : (s.setReg r v).eiPend = s.eiPend := by cases r <;> rfl
@[simp] theorem setReg_halted (s : State) (r : Reg) (v : Byte) : (s.setReg r v).halted = s.halted := by cases r <;> rfl
@[simp] theorem setReg_mem (s : State) (r : Reg) (v : Byte) : (s.setReg r v).mem = s.mem := by cases r <;> rfl
@[simp] theorem setReg_board (s : State) (r : Reg) (v : Byte) : (s.setReg r v).board = s.board := by cases r <;> rfl
@[simp] theorem setReg_schedule (s : State) (r : Reg) (v : Byte) : (s.setReg r v).schedule = s.schedule := by cases r <;> rfl
@[simp] theorem setReg_ioIn (s : State) (r : Reg) (v : Byte) : (s.setReg r v).ioIn = s.ioIn := by cases r <;> rfl
@[simp] theorem setReg_output (s : State) (r : Reg) (v : Byte) : (s.setReg r v).output = s.output := by cases r <;> rfl
@[simp] theorem setReg_tick (s : State) (r : Reg) (v : Byte) : (s.setReg r v).tick = s.tick := by cases r <;> rfl

/-! ### `setPair` -/

@[simp] theorem setPair_flags (s : State) (p : Pair) (v : Word) : (s.setPair p v).flags = s.flags := by cases p <;> rfl
@[simp] theorem setPair_sp (s : State) (p : Pair) (v : Word) : (s.setPair p v).sp = s.sp := by cases p <;> rfl
@[simp] theorem setPair_pc (s : State) (p : Pair) (v : Word) : (s.setPair p v).pc = s.pc := by cases p <;> rfl
@[simp] theorem setPair_inte (s : State) (p : Pair) (v : Word) : (s.setPair p v).inte = s.inte := by cases p <;> rfl
@[simp] theorem setPair_eiPend (s : State) (p : Pair) (v : Word) : (s.setPair p v).eiPend = s.eiPend := by cases p <;> rfl
@[simp] theorem setPair_halted (s : State) (p : Pair) (v : Word) : (s.setPair p v).halted = s.halted := by cases p <;> rfl
@[simp] theorem setPair_mem (s : State) (p : Pair) (v : Word) : (s.setPair p v).mem = s.mem := by cases p <;> rfl
@[simp] theorem setPair_board (s : State) (p : Pair) (v : Word) : (s.setPair p v).board = s.board := by cases p <;> rfl
@[simp] theorem setPair_schedule (s : State) (p : Pair) (v : Word) : (s.setPair p v).schedule = s.schedule := by cases p <;> rfl
@[simp] theorem setPair_ioIn (s : State) (p : Pair) (v : Word) : (s.setPair p v).ioIn = s.ioIn := by cases p <;> rfl
@[simp] theorem setPair_output (s : State) (p : Pair) (v : Word) : (s.setPair p v).output = s.output := by cases p <;> rfl
@[simp] theorem setPair_tick (s : State) (p : Pair) (v : Word) : (s.setPair p v).tick = s.tick := by cases p <;> rfl

/-! ### `setPairSp` -/

@[simp] theorem setPairSp_flags (s : State) (p : PairSp) (v : Word) : (s.setPairSp p v).flags = s.flags := by cases p <;> rfl
@[simp] theorem setPairSp_pc (s : State) (p : PairSp) (v : Word) : (s.setPairSp p v).pc = s.pc := by cases p <;> rfl
@[simp] theorem setPairSp_inte (s : State) (p : PairSp) (v : Word) : (s.setPairSp p v).inte = s.inte := by cases p <;> rfl
@[simp] theorem setPairSp_eiPend (s : State) (p : PairSp) (v : Word) : (s.setPairSp p v).eiPend = s.eiPend := by cases p <;> rfl
@[simp] theorem setPairSp_halted (s : State) (p : PairSp) (v : Word) : (s.setPairSp p v).halted = s.halted := by cases p <;> rfl
@[simp] theorem setPairSp_mem (s : State) (p : PairSp) (v : Word) : (s.setPairSp p v).mem = s.mem := by cases p <;> rfl
@[simp] theorem setPairSp_board (s : State) (p : PairSp) (v : Word) : (s.setPairSp p v).board = s.board := by cases p <;> rfl
@[simp] theorem setPairSp_schedule (s : State) (p : PairSp) (v : Word) : (s.setPairSp p v).schedule = s.schedule := by cases p <;> rfl
@[simp] theorem setPairSp_ioIn (s : State) (p : PairSp) (v : Word) : (s.setPairSp p v).ioIn = s.ioIn := by cases p <;> rfl
@[simp] theorem setPairSp_output (s : State) (p : PairSp) (v : Word) : (s.setPairSp p v).output = s.output := by cases p <;> rfl
@[simp] theorem setPairSp_tick (s : State) (p : PairSp) (v : Word) : (s.setPairSp p v).tick = s.tick := by cases p <;> rfl

/-! ### `dropTop` -/

@[simp] theorem dropTop_regs (s : State) : (s.dropTop).regs = s.regs := rfl
@[simp] theorem dropTop_flags (s : State) : (s.dropTop).flags = s.flags := rfl
@[simp] theorem dropTop_sp (s : State) : (s.dropTop).sp = s.sp + 2#16 := rfl
@[simp] theorem dropTop_pc (s : State) : (s.dropTop).pc = s.pc := rfl
@[simp] theorem dropTop_inte (s : State) : (s.dropTop).inte = s.inte := rfl
@[simp] theorem dropTop_eiPend (s : State) : (s.dropTop).eiPend = s.eiPend := rfl
@[simp] theorem dropTop_halted (s : State) : (s.dropTop).halted = s.halted := rfl
@[simp] theorem dropTop_mem (s : State) : (s.dropTop).mem = s.mem := rfl
@[simp] theorem dropTop_board (s : State) : (s.dropTop).board = s.board := rfl
@[simp] theorem dropTop_schedule (s : State) : (s.dropTop).schedule = s.schedule := rfl
@[simp] theorem dropTop_ioIn (s : State) : (s.dropTop).ioIn = s.ioIn := rfl
@[simp] theorem dropTop_output (s : State) : (s.dropTop).output = s.output := rfl
@[simp] theorem dropTop_tick (s : State) : (s.dropTop).tick = s.tick := rfl

/-! ### `passBoundary` -/

@[simp] theorem passBoundary_regs (s : State) : (s.passBoundary).regs = s.regs := rfl
@[simp] theorem passBoundary_flags (s : State) : (s.passBoundary).flags = s.flags := rfl
@[simp] theorem passBoundary_sp (s : State) : (s.passBoundary).sp = s.sp := rfl
@[simp] theorem passBoundary_pc (s : State) : (s.passBoundary).pc = s.pc := rfl
@[simp] theorem passBoundary_inte (s : State) : (s.passBoundary).inte = s.inte := rfl
@[simp] theorem passBoundary_eiPend (s : State) : (s.passBoundary).eiPend = s.eiPend := rfl
@[simp] theorem passBoundary_halted (s : State) : (s.passBoundary).halted = s.halted := rfl
@[simp] theorem passBoundary_mem (s : State) : (s.passBoundary).mem = s.mem := rfl
@[simp] theorem passBoundary_board (s : State) : (s.passBoundary).board = s.board := rfl
@[simp] theorem passBoundary_schedule (s : State) : (s.passBoundary).schedule = s.schedule.tail := rfl
@[simp] theorem passBoundary_ioIn (s : State) : (s.passBoundary).ioIn = s.ioIn := rfl
@[simp] theorem passBoundary_output (s : State) : (s.passBoundary).output = s.output := rfl
@[simp] theorem passBoundary_tick (s : State) : (s.passBoundary).tick = s.tick := rfl

/-! ### `nextTick` -/

@[simp] theorem nextTick_regs (s : State) : (s.nextTick).regs = s.regs := rfl
@[simp] theorem nextTick_flags (s : State) : (s.nextTick).flags = s.flags := rfl
@[simp] theorem nextTick_sp (s : State) : (s.nextTick).sp = s.sp := rfl
@[simp] theorem nextTick_pc (s : State) : (s.nextTick).pc = s.pc := rfl
@[simp] theorem nextTick_inte (s : State) : (s.nextTick).inte = s.inte := rfl
@[simp] theorem nextTick_eiPend (s : State) : (s.nextTick).eiPend = s.eiPend := rfl
@[simp] theorem nextTick_halted (s : State) : (s.nextTick).halted = s.halted := rfl
@[simp] theorem nextTick_mem (s : State) : (s.nextTick).mem = s.mem := rfl
@[simp] theorem nextTick_board (s : State) : (s.nextTick).board = s.board := rfl
@[simp] theorem nextTick_schedule (s : State) : (s.nextTick).schedule = s.schedule := rfl
@[simp] theorem nextTick_ioIn (s : State) : (s.nextTick).ioIn = s.ioIn := rfl
@[simp] theorem nextTick_output (s : State) : (s.nextTick).output = s.output := rfl
@[simp] theorem nextTick_tick (s : State) : (s.nextTick).tick = s.tick + 1 := rfl

/-! ### `beginInstr` -/

@[simp] theorem beginInstr_regs (s : State) (n : Nat) : (s.beginInstr n).regs = s.regs := rfl
@[simp] theorem beginInstr_flags (s : State) (n : Nat) : (s.beginInstr n).flags = s.flags := rfl
@[simp] theorem beginInstr_sp (s : State) (n : Nat) : (s.beginInstr n).sp = s.sp := rfl
@[simp] theorem beginInstr_pc (s : State) (n : Nat) : (s.beginInstr n).pc = s.pc + BitVec.ofNat 16 n := rfl
@[simp] theorem beginInstr_inte (s : State) (n : Nat) : (s.beginInstr n).inte = s.inte := rfl
@[simp] theorem beginInstr_eiPend (s : State) (n : Nat) : (s.beginInstr n).eiPend = false := rfl
@[simp] theorem beginInstr_halted (s : State) (n : Nat) : (s.beginInstr n).halted = s.halted := rfl
@[simp] theorem beginInstr_mem (s : State) (n : Nat) : (s.beginInstr n).mem = s.mem := rfl
@[simp] theorem beginInstr_board (s : State) (n : Nat) : (s.beginInstr n).board = s.board := rfl
@[simp] theorem beginInstr_schedule (s : State) (n : Nat) : (s.beginInstr n).schedule = s.schedule.tail := rfl
@[simp] theorem beginInstr_ioIn (s : State) (n : Nat) : (s.beginInstr n).ioIn = s.ioIn := rfl
@[simp] theorem beginInstr_output (s : State) (n : Nat) : (s.beginInstr n).output = s.output := rfl
@[simp] theorem beginInstr_tick (s : State) (n : Nat) : (s.beginInstr n).tick = s.tick := rfl

/-! ### `endInstr` -/

@[simp] theorem endInstr_regs (s : State) (p : Bool) (i : Instr) : (s.endInstr p i).regs = s.regs := rfl
@[simp] theorem endInstr_flags (s : State) (p : Bool) (i : Instr) : (s.endInstr p i).flags = s.flags := rfl
@[simp] theorem endInstr_sp (s : State) (p : Bool) (i : Instr) : (s.endInstr p i).sp = s.sp := rfl
@[simp] theorem endInstr_pc (s : State) (p : Bool) (i : Instr) : (s.endInstr p i).pc = s.pc := rfl
@[simp] theorem endInstr_inte (s : State) (p : Bool) (i : Instr) : (s.endInstr p i).inte = (s.inte || (p && !cancelsEi i)) := rfl
@[simp] theorem endInstr_eiPend (s : State) (p : Bool) (i : Instr) : (s.endInstr p i).eiPend = s.eiPend := rfl
@[simp] theorem endInstr_halted (s : State) (p : Bool) (i : Instr) : (s.endInstr p i).halted = s.halted := rfl
@[simp] theorem endInstr_mem (s : State) (p : Bool) (i : Instr) : (s.endInstr p i).mem = s.mem := rfl
@[simp] theorem endInstr_board (s : State) (p : Bool) (i : Instr) : (s.endInstr p i).board = s.board := rfl
@[simp] theorem endInstr_schedule (s : State) (p : Bool) (i : Instr) : (s.endInstr p i).schedule = s.schedule := rfl
@[simp] theorem endInstr_ioIn (s : State) (p : Bool) (i : Instr) : (s.endInstr p i).ioIn = s.ioIn := rfl
@[simp] theorem endInstr_output (s : State) (p : Bool) (i : Instr) : (s.endInstr p i).output = s.output := rfl
@[simp] theorem endInstr_tick (s : State) (p : Bool) (i : Instr) : (s.endInstr p i).tick = s.tick + 1 := rfl

/-! ### `ret` -/

@[simp] theorem ret_regs (s : State) : (s.ret).regs = s.regs := rfl
@[simp] theorem ret_flags (s : State) : (s.ret).flags = s.flags := rfl
@[simp] theorem ret_sp (s : State) : (s.ret).sp = s.sp + 2#16 := rfl
@[simp] theorem ret_pc (s : State) : (s.ret).pc = s.load16 s.sp := rfl
@[simp] theorem ret_inte (s : State) : (s.ret).inte = s.inte := rfl
@[simp] theorem ret_eiPend (s : State) : (s.ret).eiPend = s.eiPend := rfl
@[simp] theorem ret_halted (s : State) : (s.ret).halted = s.halted := rfl
@[simp] theorem ret_mem (s : State) : (s.ret).mem = s.mem := rfl
@[simp] theorem ret_board (s : State) : (s.ret).board = s.board := rfl
@[simp] theorem ret_schedule (s : State) : (s.ret).schedule = s.schedule := rfl
@[simp] theorem ret_ioIn (s : State) : (s.ret).ioIn = s.ioIn := rfl
@[simp] theorem ret_output (s : State) : (s.ret).output = s.output := rfl
@[simp] theorem ret_tick (s : State) : (s.ret).tick = s.tick := rfl

/-! ### `resetSignal` -/

@[simp] theorem resetSignal_sp (s : State) : (s.resetSignal).sp = Config.resetSp s.tick s.sp := rfl
@[simp] theorem resetSignal_pc (s : State) : (s.resetSignal).pc = s.board.resetPc := rfl
@[simp] theorem resetSignal_inte (s : State) : (s.resetSignal).inte = false := rfl
@[simp] theorem resetSignal_eiPend (s : State) : (s.resetSignal).eiPend = false := rfl
@[simp] theorem resetSignal_halted (s : State) : (s.resetSignal).halted = false := rfl
@[simp] theorem resetSignal_mem (s : State) : (s.resetSignal).mem = s.mem := rfl
@[simp] theorem resetSignal_board (s : State) : (s.resetSignal).board = s.board := rfl
@[simp] theorem resetSignal_schedule (s : State) : (s.resetSignal).schedule = s.schedule := rfl
@[simp] theorem resetSignal_ioIn (s : State) : (s.resetSignal).ioIn = s.ioIn := rfl
@[simp] theorem resetSignal_output (s : State) : (s.resetSignal).output = s.output := rfl
@[simp] theorem resetSignal_tick (s : State) : (s.resetSignal).tick = s.tick := rfl

/-! ### `store` -/

@[simp] theorem store_regs (s : State) (x : Word) (v : Byte) : (s.store x v).regs = s.regs := by unfold State.store; split <;> rfl
@[simp] theorem store_flags (s : State) (x : Word) (v : Byte) : (s.store x v).flags = s.flags := by unfold State.store; split <;> rfl
@[simp] theorem store_sp (s : State) (x : Word) (v : Byte) : (s.store x v).sp = s.sp := by unfold State.store; split <;> rfl
@[simp] theorem store_pc (s : State) (x : Word) (v : Byte) : (s.store x v).pc = s.pc := by unfold State.store; split <;> rfl
@[simp] theorem store_inte (s : State) (x : Word) (v : Byte) : (s.store x v).inte = s.inte := by unfold State.store; split <;> rfl
@[simp] theorem store_eiPend (s : State) (x : Word) (v : Byte) : (s.store x v).eiPend = s.eiPend := by unfold State.store; split <;> rfl
@[simp] theorem store_halted (s : State) (x : Word) (v : Byte) : (s.store x v).halted = s.halted := by unfold State.store; split <;> rfl
@[simp] theorem store_board (s : State) (x : Word) (v : Byte) : (s.store x v).board = s.board := by unfold State.store; split <;> rfl
@[simp] theorem store_schedule (s : State) (x : Word) (v : Byte) : (s.store x v).schedule = s.schedule := by unfold State.store; split <;> rfl
@[simp] theorem store_ioIn (s : State) (x : Word) (v : Byte) : (s.store x v).ioIn = s.ioIn := by unfold State.store; split <;> rfl
@[simp] theorem store_tick (s : State) (x : Word) (v : Byte) : (s.store x v).tick = s.tick := by unfold State.store; split <;> rfl

/-! ### `store16` -/

@[simp] theorem store16_regs (s : State) (x v : Word) : (s.store16 x v).regs = s.regs := by simp [State.store16]
@[simp] theorem store16_flags (s : State) (x v : Word) : (s.store16 x v).flags = s.flags := by simp [State.store16]
@[simp] theorem store16_sp (s : State) (x v : Word) : (s.store16 x v).sp = s.sp := by simp [State.store16]
@[simp] theorem store16_pc (s : State) (x v : Word) : (s.store16 x v).pc = s.pc := by simp [State.store16]
@[simp] theorem store16_inte (s : State) (x v : Word) : (s.store16 x v).inte = s.inte := by simp [State.store16]
@[simp] theorem store16_eiPend (s : State) (x v : Word) : (s.store16 x v).eiPend = s.eiPend := by simp [State.store16]
@[simp] theorem store16_halted (s : State) (x v : Word) : (s.store16 x v).halted = s.halted := by simp [State.store16]
@[simp] theorem store16_board (s : State) (x v : Word) : (s.store16 x v).board = s.board := by simp [State.store16]
@[simp] theorem store16_schedule (s : State) (x v : Word) : (s.store16 x v).schedule = s.schedule := by simp [State.store16]
@[simp] theorem store16_ioIn (s : State) (x v : Word) : (s.store16 x v).ioIn = s.ioIn := by simp [State.store16]
@[simp] theorem store16_tick (s : State) (x v : Word) : (s.store16 x v).tick = s.tick := by simp [State.store16]

/-! ### `push` -/

@[simp] theorem push_regs (s : State) (hi lo : Byte) : (s.push hi lo).regs = s.regs := by simp [State.push]
@[simp] theorem push_flags (s : State) (hi lo : Byte) : (s.push hi lo).flags = s.flags := by simp [State.push]
@[simp] theorem push_sp (s : State) (hi lo : Byte) : (s.push hi lo).sp = s.sp - 2#16 := by simp [State.push]
@[simp] theorem push_pc (s : State) (hi lo : Byte) : (s.push hi lo).pc = s.pc := by simp [State.push]
@[simp] theorem push_inte (s : State) (hi lo : Byte) : (s.push hi lo).inte = s.inte := by simp [State.push]
@[simp] theorem push_eiPend (s : State) (hi lo : Byte) : (s.push hi lo).eiPend = s.eiPend := by simp [State.push]
@[simp] theorem push_halted (s : State) (hi lo : Byte) : (s.push hi lo).halted = s.halted := by simp [State.push]
@[simp] theorem push_board (s : State) (hi lo : Byte) : (s.push hi lo).board = s.board := by simp [State.push]
@[simp] theorem push_schedule (s : State) (hi lo : Byte) : (s.push hi lo).schedule = s.schedule := by simp [State.push]
@[simp] theorem push_ioIn (s : State) (hi lo : Byte) : (s.push hi lo).ioIn = s.ioIn := by simp [State.push]
@[simp] theorem push_tick (s : State) (hi lo : Byte) : (s.push hi lo).tick = s.tick := by simp [State.push]

/-! ### `callTo` -/

@[simp] theorem callTo_regs (s : State) (x : Word) : (s.callTo x).regs = s.regs := by simp [State.callTo]
@[simp] theorem callTo_flags (s : State) (x : Word) : (s.callTo x).flags = s.flags := by simp [State.callTo]
@[simp] theorem callTo_sp (s : State) (x : Word) : (s.callTo x).sp = s.sp - 2#16 := by simp [State.callTo]
@[simp] theorem callTo_pc (s : State) (x : Word) : (s.callTo x).pc = x := by simp [State.callTo]
@[simp] theorem callTo_inte (s : State) (x : Word) : (s.callTo x).inte = s.inte := by simp [State.callTo]
@[simp] theorem callTo_eiPend (s : State) (x : Word) : (s.callTo x).eiPend = s.eiPend := by simp [State.callTo]
@[simp] theorem callTo_halted (s : State) (x : Word) : (s.callTo x).halted = s.halted := by simp [State.callTo]
@[simp] theorem callTo_board (s : State) (x : Word) : (s.callTo x).board = s.board := by simp [State.callTo]
@[simp] theorem callTo_schedule (s : State) (x : Word) : (s.callTo x).schedule = s.schedule := by simp [State.callTo]
@[simp] theorem callTo_ioIn (s : State) (x : Word) : (s.callTo x).ioIn = s.ioIn := by simp [State.callTo]
@[simp] theorem callTo_tick (s : State) (x : Word) : (s.callTo x).tick = s.tick := by simp [State.callTo]

/-! ### `acceptInterrupt` -/

@[simp] theorem acceptInterrupt_regs (s : State) (n : Fin 8) : (s.acceptInterrupt n).regs = s.regs := by simp [State.acceptInterrupt]
@[simp] theorem acceptInterrupt_flags (s : State) (n : Fin 8) : (s.acceptInterrupt n).flags = s.flags := by simp [State.acceptInterrupt]
@[simp] theorem acceptInterrupt_sp (s : State) (n : Fin 8) : (s.acceptInterrupt n).sp = s.sp - 2#16 := by simp [State.acceptInterrupt]
@[simp] theorem acceptInterrupt_pc (s : State) (n : Fin 8) : (s.acceptInterrupt n).pc = restartAddress n := by simp [State.acceptInterrupt]
@[simp] theorem acceptInterrupt_inte (s : State) (n : Fin 8) : (s.acceptInterrupt n).inte = false := by simp [State.acceptInterrupt]
@[simp] theorem acceptInterrupt_eiPend (s : State) (n : Fin 8) : (s.acceptInterrupt n).eiPend = s.eiPend := by simp [State.acceptInterrupt]
@[simp] theorem acceptInterrupt_halted (s : State) (n : Fin 8) : (s.acceptInterrupt n).halted = false := by simp [State.acceptInterrupt]
@[simp] theorem acceptInterrupt_board (s : State) (n : Fin 8) : (s.acceptInterrupt n).board = s.board := by simp [State.acceptInterrupt]
@[simp] theorem acceptInterrupt_schedule (s : State) (n : Fin 8) : (s.acceptInterrupt n).schedule = s.schedule := by simp [State.acceptInterrupt]
@[simp] theorem acceptInterrupt_ioIn (s : State) (n : Fin 8) : (s.acceptInterrupt n).ioIn = s.ioIn := by simp [State.acceptInterrupt]
@[simp] theorem acceptInterrupt_tick (s : State) (n : Fin 8) : (s.acceptInterrupt n).tick = s.tick := by simp [State.acceptInterrupt]

/-! ### Registers read back -/

@[simp] theorem reg_setReg_same (s : State) (r : Reg) (v : Byte) : (s.setReg r v).reg r = v := by
  cases r <;> rfl

theorem reg_setReg_other (s : State) (v : Byte) (q r : Reg) (h : q ≠ r) : (s.setReg r v).reg q = s.reg q := by
  cases r <;> cases q <;> first | rfl | exact absurd rfl h

/-- Reading any register after a write, in one rule. -/
theorem reg_setReg (s : State) (r q : Reg) (v : Byte) :
    (s.setReg r v).reg q = if q = r then v else s.reg q := by
  cases r <;> cases q <;> rfl

/-- A register depends on the register file only. -/
theorem reg_congr (s t : State) (h : t.regs = s.regs) (r : Reg) : t.reg r = s.reg r := by
  cases r <;> simp [State.reg, h]

/-- A pair depends on the register file only. -/
theorem pair_congr (s t : State) (h : t.regs = s.regs) (p : Pair) : t.pair p = s.pair p := by
  simp only [State.pair, reg_congr s t h]

theorem wordOf_hi_lo (v : Word) : wordOf (hiByte v) (loByte v) = v := by
  unfold wordOf hiByte loByte
  ext k hk
  simp only [BitVec.getElem_append, BitVec.getElem_extractLsb']
  split
  · simp [BitVec.getElem_eq_testBit_toNat, BitVec.getLsbD]
  · next h => simp [BitVec.getElem_eq_testBit_toNat, BitVec.getLsbD, show 8 + (k - 8) = k by omega]

theorem getLsbD_wordOf (x y : Byte) (k : Nat) :
    (wordOf x y).getLsbD k = if k < 8 then y.getLsbD k else x.getLsbD (k - 8) := by
  have h := BitVec.getLsbD_append (x := x) (y := y) (i := k)
  by_cases hk : k < 8 <;> simpa [wordOf, hk] using h

@[simp] theorem hi_wordOf (x y : Byte) : hiByte (wordOf x y) = x := by
  unfold hiByte
  ext k hk
  simp [getLsbD_wordOf, BitVec.getLsbD_eq_getElem, hk]

@[simp] theorem lo_wordOf (x y : Byte) : loByte (wordOf x y) = y := by
  unfold loByte
  ext k hk
  simp [getLsbD_wordOf, hk, BitVec.getLsbD_eq_getElem]

@[simp] theorem pair_setPair_same (s : State) (p : Pair) (v : Word) : (s.setPair p v).pair p = v := by
  cases p <;> exact wordOf_hi_lo v

theorem pair_setPair_other (s : State) (v : Word) (p q : Pair) (h : q ≠ p) :
    (s.setPair p v).pair q = s.pair q := by
  cases p <;> cases q <;> first | rfl | exact absurd rfl h

/-- A register after a pair is written. -/
theorem reg_setPair (s : State) (p : Pair) (v : Word) (q : Reg) :
    (s.setPair p v).reg q =
      if q = pairLo p then loByte v else if q = pairHi p then hiByte v else s.reg q := by
  cases p <;> cases q <;> rfl

end Sys2Proof.Laws
end

