-- ==== Sys2Proof/Laws/Memory.lean ====
section
/-! SUPPORT. Memory: a read after a write, and every memory operation keeps the canonical form. -/

namespace Sys2Proof.Laws

open Sys2Proof Sys2Proof.Machine

/-! ### One byte -/

@[simp] theorem memory_read_nil (a : Nat) : Memory.read [] a = Memory.unlisted := rfl

theorem memory_read_cons (x : Nat) (w : Byte) (m : Memory) (a : Nat) :
    Memory.read ((x, w) :: m) a = if a = x then w else Memory.read m a := rfl

/-- An address below every entry is unlisted. -/
theorem memory_read_below (m : Memory) (a : Nat) (h : ∀ x ∈ m, a < x.1) :
    Memory.read m a = Memory.unlisted := by
  induction m with
  | nil => rfl
  | cons x m ih =>
    rw [memory_read_cons, if_neg (Nat.ne_of_lt (h x List.mem_cons_self))]
    exact ih fun y hy => h y (List.mem_cons_of_mem _ hy)

theorem memory_read_enter (m : Memory) (a b : Nat) (v : Byte) (h : ∀ x ∈ m, a < x.1) :
    Memory.read (Memory.enter a v m) b = if b = a then v else Memory.read m b := by
  unfold Memory.enter
  split
  · next hv =>
    split
    · next hb => rw [hb, hv]; exact memory_read_below m a h
    · rfl
  · exact memory_read_cons a v m b

/-- A read after a write, at any address, in memory of canonical form. -/
theorem memory_read_write (m : Memory) (hm : m.wf) (a b : Nat) (v : Byte) :
    (m.write a v).read b = if b = a then v else m.read b := by
  induction m with
  | nil => exact memory_read_enter [] a b v (by simp)
  | cons x m ih =>
    obtain ⟨hx, hp⟩ := hm
    have hlow : ∀ y ∈ m, x.1 < y.1 := (List.pairwise_cons.1 hp).1
    have hm' : Memory.wf m :=
      ⟨fun y hy => hx y (List.mem_cons_of_mem _ hy), (List.pairwise_cons.1 hp).2⟩
    obtain ⟨k, w⟩ := x
    rw [Memory.write]
    split
    · next hlt =>
      refine memory_read_enter _ a b v fun y hy => ?_
      rcases List.mem_cons.1 hy with rfl | hy
      · exact hlt
      · exact Nat.lt_trans hlt (hlow y hy)
    · split
      · next hk =>
        subst hk
        rw [memory_read_enter m a b v hlow, memory_read_cons]
        split <;> simp_all
      · next hk =>
        rw [memory_read_cons, memory_read_cons, ih hm']
        split
        · next hb => rw [if_neg (by rw [hb]; exact fun e => hk e.symm)]
        · rfl

/-! ### The canonical form -/

theorem memory_mem_enter {m : Memory} {a : Nat} {v : Byte} {x : Host.Cell}
    (h : x ∈ Memory.enter a v m) : (x = (a, v) ∧ v ≠ Memory.unlisted) ∨ x ∈ m := by
  unfold Memory.enter at h
  split at h
  · exact .inr h
  · next hv =>
    rcases List.mem_cons.1 h with h | h
    · exact .inl ⟨h, hv⟩
    · exact .inr h

theorem memory_mem_write {m : Memory} {a : Nat} {v : Byte} {x : Host.Cell}
    (h : x ∈ m.write a v) : (x = (a, v) ∧ v ≠ Memory.unlisted) ∨ x ∈ m := by
  induction m with
  | nil => exact memory_mem_enter h
  | cons y m ih =>
    obtain ⟨k, w⟩ := y
    rw [Memory.write] at h
    split at h
    · exact memory_mem_enter h
    · split at h
      · exact (memory_mem_enter h).imp id (List.mem_cons_of_mem _)
      · rcases List.mem_cons.1 h with h | h
        · exact .inr (h ▸ List.mem_cons_self)
        · exact (ih h).imp id (List.mem_cons_of_mem _)

theorem memory_enter_pairwise {m : Memory} {a : Nat} {v : Byte} (hp : m.Pairwise fun x y => x.1 < y.1)
    (h : ∀ x ∈ m, a < x.1) : (Memory.enter a v m).Pairwise fun x y => x.1 < y.1 := by
  unfold Memory.enter
  split
  · exact hp
  · exact List.pairwise_cons.2 ⟨h, hp⟩

theorem memory_write_pairwise (m : Memory) (hp : m.Pairwise fun x y => x.1 < y.1) (a : Nat) (v : Byte) :
    (m.write a v).Pairwise fun x y => x.1 < y.1 := by
  induction m with
  | nil => exact memory_enter_pairwise List.Pairwise.nil (by simp)
  | cons y m ih =>
    obtain ⟨k, w⟩ := y
    obtain ⟨hlow, hp'⟩ := List.pairwise_cons.1 hp
    rw [Memory.write]
    split
    · next hlt =>
      refine memory_enter_pairwise hp fun y hy => ?_
      rcases List.mem_cons.1 hy with rfl | hy
      · exact hlt
      · exact Nat.lt_trans hlt (hlow y hy)
    · split
      · next hk => exact memory_enter_pairwise hp' (hk ▸ hlow)
      · next hlt hk =>
        refine List.pairwise_cons.2 ⟨fun y hy => ?_, ih hp'⟩
        rcases memory_mem_write hy with ⟨rfl, _⟩ | hy
        · exact Nat.lt_of_le_of_ne (Nat.le_of_not_lt hlt) fun e => hk e.symm
        · exact hlow y hy

/-- Storing a byte keeps the canonical form. -/
theorem memory_write_wf (m : Memory) (hm : m.wf) (a : Nat) (v : Byte) (ha : a < 65536) : (m.write a v).wf := by
  refine ⟨fun x hx => ?_, memory_write_pairwise m hm.2 a v⟩
  rcases memory_mem_write hx with ⟨rfl, hv⟩ | hx
  · exact ⟨ha, hv⟩
  · exact hm.1 x hx

/-- Storing several bytes keeps the canonical form. -/
theorem memory_writeBytes_wf (m : Memory) (hm : m.wf) (a : Word) (bs : List Byte) : (m.writeBytes a bs).wf := by
  induction bs generalizing m a with
  | nil => exact hm
  | cons v bs ih => exact ih _ (memory_write_wf m hm _ v a.isLt) _

end Sys2Proof.Laws
end

