-- ==== Sys2Proof/Laws/Ops.lean ====
section
/-! SUPPORT. For every shared operation one lemma that says everything it can do, and that it keeps the
canonical form of memory. -/

namespace Sys2Proof.Laws

open Sys2Proof Sys2Proof.Machine

/-! ### The memory map -/

theorem memKind_congr (s t : State) (h : t.board = s.board) (x : Word) : t.memKind x = s.memKind x := by
  simp only [State.memKind, h]

theorem holdsByte_congr (s t : State) (h : t.board = s.board) (x : Word) : t.holdsByte x = s.holdsByte x := by
  simp only [State.holdsByte, memKind_congr s t h]

@[simp] theorem memKind_store (s : State) (x : Word) (v : Byte) (y : Word) :
    (s.store x v).memKind y = s.memKind y := memKind_congr _ _ (store_board s x v) y

@[simp] theorem holdsByte_store (s : State) (x : Word) (v : Byte) (y : Word) :
    (s.store x v).holdsByte y = s.holdsByte y := holdsByte_congr _ _ (store_board s x v) y

/-- Without a memory map every address is RAM (D21). -/
theorem memKind_default (s : State) (h : s.board.memMap = []) (x : Word) : s.memKind x = .ram := by
  simp only [State.memKind, h, memKindIn]

/-! ### Reading -/

/-- A byte of memory reads as memory holds it. -/
theorem load_of_holdsByte (s : State) (why : Access) (x : Word) (h : s.holdsByte x = true) :
    s.load why x = s.mem.read x.toNat := by
  unfold State.holdsByte at h
  unfold State.load
  cases hk : s.memKind x <;> rw [hk] at h <;> first | rfl | cases h

theorem holdsByte_of_ram (s : State) (x : Word) (h : s.memKind x = .ram) : s.holdsByte x = true := by
  simp only [State.holdsByte, h]

theorem holdsByte_of_rom (s : State) (x : Word) (h : s.memKind x = .rom) : s.holdsByte x = true := by
  simp only [State.holdsByte, h]

/-- What an address answers depends on the memory, the board, the outputs and the index of the draws. -/
theorem load_congr (s t : State) (hm : t.mem = s.mem) (hb : t.board = s.board) (ho : t.output = s.output)
    (ht : t.tick = s.tick) (why : Access) (x : Word) : t.load why x = s.load why x := by
  simp only [State.load, memKind_congr s t hb, hm, ho, ht]

/-- A byte of memory reads alike in states with the same memory and board. -/
theorem sameMemory_of_mem_eq (s t : State) (hm : t.mem = s.mem) (hb : t.board = s.board) (l : List Word) :
    SameMemoryBut l s t := fun why x hx _ => by
  rw [load_of_holdsByte s why x hx, load_of_holdsByte t why x (by rw [holdsByte_congr s t hb, hx]), hm]

theorem storesNothing_of_eq (s t : State) (hm : t.mem = s.mem) (hb : t.board = s.board)
    (ho : t.output = s.output) : StoresNothing s t := ⟨hm, ho, sameMemory_of_mem_eq s t hm hb []⟩

/-! ### Storing one byte -/

/-- What a store does, by what the memory map makes of the address. -/
theorem store_eq (s : State) (x : Word) (v : Byte) :
    s.store x v =
      { s with
        mem := if s.memKind x = .ram then s.mem.write x.toNat v else s.mem
        output := if s.memKind x = .device then s.output ++ [.memWrite x v] else s.output } := by
  unfold State.store
  split <;> next h => simp [h]

theorem store_mem (s : State) (x : Word) (v : Byte) :
    (s.store x v).mem = if s.memKind x = .ram then s.mem.write x.toNat v else s.mem := by
  rw [store_eq]

theorem store_output (s : State) (x : Word) (v : Byte) :
    (s.store x v).output = if s.memKind x = .device then s.output ++ [.memWrite x v] else s.output := by
  rw [store_eq]

theorem toNat_ne_of_ne {x y : Word} (h : x ≠ y) : x.toNat ≠ y.toNat := fun e => h (BitVec.eq_of_toNat_eq e)

/-- Memory after a store, read at any address. -/
theorem store_read (s : State) (hs : s.mem.wf) (x : Word) (v : Byte) (y : Word) :
    (s.store x v).mem.read y.toNat = if y = x ∧ s.memKind x = .ram then v else s.mem.read y.toNat := by
  rw [store_mem]
  by_cases hk : s.memKind x = .ram
  · rw [if_pos hk, memory_read_write s.mem hs]
    by_cases hy : y = x
    · simp [hy, hk]
    · simp [hy, toNat_ne_of_ne hy]
  · simp [hk]

/-- A byte of memory after a store, read at any address. -/
theorem store_load (s : State) (hs : s.mem.wf) (x : Word) (v : Byte) (why : Access) (y : Word)
    (hy : s.holdsByte y = true) :
    (s.store x v).load why y = if y = x ∧ s.memKind x = .ram then v else s.load why y := by
  rw [load_of_holdsByte _ _ _ (by rw [holdsByte_store, hy]), load_of_holdsByte s _ _ hy, store_read s hs]

theorem store_wf (s : State) (hs : s.mem.wf) (x : Word) (v : Byte) : (s.store x v).mem.wf := by
  rw [store_mem]
  split
  · exact memory_write_wf _ hs _ _ x.isLt
  · exact hs

/-- Everything a store does (R8 `MemWrite`). -/
theorem store_spec (s : State) (hs : s.mem.wf) (x : Word) (v : Byte) : StoresByte x v s (s.store x v) := by
  refine ⟨fun h why => ?_, fun h why => ?_, store_output s x v, fun why y hy hn => ?_⟩
  · rw [store_load s hs x v why x (holdsByte_of_ram s x h), if_pos ⟨rfl, h⟩]
  · rw [store_load s hs x v why x (holdsByte_of_rom s x h), if_neg (by rw [h]; simp)]
  · rw [store_load s hs x v why y hy, if_neg fun h => hn (by rw [h.1]; exact List.mem_singleton_self x)]

/-! ### Storing two bytes -/

/-- Everything two stores at different addresses do. -/
theorem store_store_spec (s : State) (hs : s.mem.wf) (x y : Word) (v w : Byte) (hxy : x ≠ y) :
    StoresTwo x v y w s ((s.store x v).store y w) := by
  have hs1 := store_wf s hs x v
  have key : ∀ why z, s.holdsByte z = true →
      ((s.store x v).store y w).load why z =
        if z = y ∧ s.memKind y = .ram then w
        else if z = x ∧ s.memKind x = .ram then v else s.load why z := by
    intro why z hz
    rw [store_load _ hs1 y w why z (by rw [holdsByte_store, hz]), memKind_store, store_load s hs x v why z hz]
  refine ⟨fun h why => ?_, fun h why => ?_, fun h why => ?_, fun h why => ?_, ?_, fun why z hz hn => ?_⟩
  · rw [key why x (holdsByte_of_ram s x h), if_neg fun e => hxy e.1, if_pos ⟨rfl, h⟩]
  · rw [key why y (holdsByte_of_ram s y h), if_pos ⟨rfl, h⟩]
  · rw [key why x (holdsByte_of_rom s x h), if_neg fun e => hxy e.1, if_neg (by rw [h]; simp)]
  · rw [key why y (holdsByte_of_rom s y h), if_neg (by rw [h]; simp), if_neg fun e => hxy e.1.symm]
  · rw [store_output, memKind_store, store_output]
    split <;> split <;> simp
  · have hzx : z ≠ x := fun e => hn (by simp [e])
    have hzy : z ≠ y := fun e => hn (by simp [e])
    rw [key why z hz, if_neg fun e => hzy e.1, if_neg fun e => hzx e.1]

theorem word_succ_ne (x : Word) : x ≠ x + 1#16 := by
  intro h
  simp at h

theorem stack_addresses_ne (x : Word) : x - 1#16 ≠ x - 2#16 := by
  intro h
  have e : x - 1#16 = x - 2#16 + 1#16 := by
    rw [BitVec.sub_eq_add_neg, BitVec.sub_eq_add_neg, BitVec.add_assoc]; rfl
  exact word_succ_ne (x - 2#16) (h ▸ e)

/-- `MemWrite(a, 2, v)` (R8). -/
theorem store16_spec (s : State) (hs : s.mem.wf) (x v : Word) :
    StoresTwo x (loByte v) (x + 1#16) (hiByte v) s (s.store16 x v) :=
  store_store_spec s hs x (x + 1#16) _ _ (word_succ_ne x)

theorem store16_wf (s : State) (hs : s.mem.wf) (x v : Word) : (s.store16 x v).mem.wf :=
  store_wf _ (store_wf s hs _ _) _ _

/-- What is read in a state with one field of another kind changed. -/
theorem storesTwo_congr {x y : Word} {v w : Byte} {s t u : State} (h : StoresTwo x v y w s t)
    (hm : u.mem = t.mem) (hb : u.board = t.board) (ho : u.output = t.output) (ht : u.tick = t.tick) :
    StoresTwo x v y w s u := by
  have e := load_congr t u hm hb ho ht
  simp only [StoresTwo, SameMemoryBut, e, ho]
  exact h

/-- As `storesTwo_congr`, for one byte. -/
theorem storesByte_congr {x : Word} {v : Byte} {s t u : State} (h : StoresByte x v s t)
    (hm : u.mem = t.mem) (hb : u.board = t.board) (ho : u.output = t.output) (ht : u.tick = t.tick) :
    StoresByte x v s u := by
  have e := load_congr t u hm hb ho ht
  simp only [StoresByte, SameMemoryBut, e, ho]
  exact h

/-! ### Stack, call, interrupt -/

/-- Everything a push stores (R45, R47). -/
theorem push_spec (s : State) (hs : s.mem.wf) (hi lo : Byte) :
    StoresTwo (s.sp - 1#16) hi (s.sp - 2#16) lo s (s.push hi lo) :=
  storesTwo_congr (store_store_spec s hs _ _ hi lo (stack_addresses_ne s.sp)) rfl rfl rfl rfl

theorem push_wf (s : State) (hs : s.mem.wf) (hi lo : Byte) : (s.push hi lo).mem.wf :=
  store_wf _ (store_wf s hs _ _) _ _

/-- Everything a call stores (R96). -/
theorem callTo_spec (s : State) (hs : s.mem.wf) (x : Word) :
    StoresTwo (s.sp - 1#16) (hiByte s.pc) (s.sp - 2#16) (loByte s.pc) s (s.callTo x) :=
  storesTwo_congr (push_spec s hs _ _) rfl rfl rfl rfl

theorem callTo_wf (s : State) (hs : s.mem.wf) (x : Word) : (s.callTo x).mem.wf := push_wf s hs _ _

theorem acceptInterrupt_wf (s : State) (hs : s.mem.wf) (n : Fin 8) : (s.acceptInterrupt n).mem.wf :=
  callTo_wf { s with inte := false, halted := false } hs (restartAddress n)

/-! ### What operations leave of the memory and the outputs -/

/-- The outputs of a store begin with the outputs before it. -/
theorem store_output_prefix (s : State) (x : Word) (v : Byte) : s.output <+: (s.store x v).output := by
  rw [store_output]
  split
  · exact List.prefix_append _ _
  · exact List.prefix_rfl

theorem push_output_prefix (s : State) (hi lo : Byte) : s.output <+: (s.push hi lo).output :=
  (store_output_prefix s _ hi).trans (store_output_prefix _ _ lo)

/-- A store leaves what memory holds at an address that is not RAM. -/
theorem store_read_notRam (s : State) (hs : s.mem.wf) (x : Word) (v : Byte) (y : Word)
    (hy : s.memKind y ≠ .ram) : (s.store x v).mem.read y.toNat = s.mem.read y.toNat := by
  rw [store_read s hs, if_neg]
  rintro ⟨rfl, h⟩
  exact hy h

theorem push_read_notRam (s : State) (hs : s.mem.wf) (hi lo : Byte) (y : Word) (hy : s.memKind y ≠ .ram) :
    (s.push hi lo).mem.read y.toNat = s.mem.read y.toNat := by
  show ((s.store _ hi).store _ lo).mem.read y.toNat = _
  rw [store_read_notRam _ (store_wf s hs _ _) _ _ _ (by rwa [memKind_store]), store_read_notRam s hs _ _ _ hy]

/-! ### Flags -/

@[simp] theorem flagsOfByte_flagByte (f : Flags) (u : BitVec 3) : flagsOfByte (flagByte f u) = f := by
  obtain ⟨s, z, h, p, c⟩ := f
  have key : ∀ (s z h p c : Bool) (u : BitVec 3), flagsOfByte (flagByte ⟨s, z, h, p, c⟩ u) = ⟨s, z, h, p, c⟩ := by
    decide
  exact key s z h p c u

@[simp] theorem unpackFlags_packFlags (f : Flags) : unpackFlags (packFlags f) = f := by
  obtain ⟨s, z, h, p, c⟩ := f
  revert s z h p c
  decide

end Sys2Proof.Laws
end

