-- ==== Sys2Proof/Laws/Forms.lean ====
section
/-! SUPPORT. `exec` by the fields of an instruction (R63): one equation for each shape of the manual's
entries, so that a proof over all instructions has a case for each shape and not one for each opcode byte. -/

namespace Sys2Proof.Laws

open Sys2Proof Sys2Proof.Machine

theorem instr_form (i : Instr) : i.form.instr = i := by cases i <;> rfl

theorem form_instr (f : Form) : f.instr.form = f := by
  cases f with
  | mov dst src => cases dst <;> cases src <;> rfl
  | alu op src => cases src with
    | reg r => cases op <;> cases r <;> rfl
    | mem => cases op <;> rfl
    | imm d8 => cases op <;> rfl
  | rst n => obtain ⟨k, hk⟩ := n; interval_cases k <;> rfl
  | movRM dst => cases dst <;> rfl
  | movMR src => cases src <;> rfl
  | mvi dst d8 => cases dst <;> rfl
  | ldax p => cases p <;> rfl
  | stax p => cases p <;> rfl
  | lxi p d16 => cases p <;> rfl
  | push p => cases p <;> rfl
  | pop p => cases p <;> rfl
  | inr r => cases r <;> rfl
  | dcr r => cases r <;> rfl
  | dad p => cases p <;> rfl
  | inx p => cases p <;> rfl
  | dcx p => cases p <;> rfl
  | jcond cc a16 => cases cc <;> rfl
  | ccond cc a16 => cases cc <;> rfl
  | rcond cc => cases cc <;> rfl
  | _ => rfl

/-- The meaning of an instruction, by its fields. -/
def execForm (f : Form) (s : State) : Result :=
  match f with
  | .mov dst src => movRegReg dst src s
  | .movRM dst => movRegMem dst s
  | .movMR src => movMemReg src s
  | .mvi dst d8 => moveImmReg dst d8 s
  | .mviM d8 => execMviM d8 s
  | .ldax p => loadAIndirect p s
  | .lda a16 => execLda a16 s
  | .stax p => storeAIndirect p s
  | .sta a16 => execSta a16 s
  | .lxi p d16 => loadImmPair p d16 s
  | .lhld a16 => execLhld a16 s
  | .shld a16 => execShld a16 s
  | .sphl => execSphl s
  | .push p => pushPair p s
  | .pushPsw => execPushPSW s
  | .pop p => popPair p s
  | .popPsw => execPopPSW s
  | .xchg => execXchg s
  | .xthl => execXthl s
  | .alu op src => aluOperate op src s
  | .inr r => incrementReg r s
  | .inrM => execInrM s
  | .dcr r => decrementReg r s
  | .dcrM => execDcrM s
  | .daa => execDaa s
  | .cma => execCma s
  | .cmc => execCmc s
  | .stc => execStc s
  | .nop => execNop s
  | .hlt => execHlt s
  | .di => execDi s
  | .ei => execEi s
  | .dad p => addPair p s
  | .inx p => incrementPair p s
  | .dcx p => decrementPair p s
  | .rlc => rotateA rlc8 s
  | .ral => rotateA ral8 s
  | .rrc => rotateA rrc8 s
  | .rar => rotateA rar8 s
  | .jmp a16 => execJmp a16 s
  | .jcond cc a16 => jumpIf cc a16 s
  | .pchl => execPchl s
  | .call a16 => execCall a16 s
  | .ccond cc a16 => callIf cc a16 s
  | .ret => execRet s
  | .rcond cc => returnIf cc s
  | .rst n => restart n s
  | .inPort port => execInPort port s
  | .outPort port => execOutPort port s

/-- `exec` of every instruction is the meaning of its fields. -/
theorem exec_eq_execForm (i : Instr) (s : State) : exec i s = execForm i.form s := by cases i <;> rfl

/-- The meaning of the instruction that has given fields. -/
theorem exec_instr (f : Form) (s : State) : exec f.instr s = execForm f s := by
  rw [exec_eq_execForm, form_instr]

end Sys2Proof.Laws
end

