-- ==== Sys2Proof/Laws/Step.lean ====
section
/-! SUPPORT. What one step can do. -/

namespace Sys2Proof.Laws

open Sys2Proof Sys2Proof.Machine

/-- If a step answers a next state, it is one of four (R70, R225): the reset signal, the acceptance of an
interrupt, a halted CPU that stays halted, or an instruction. -/
theorem step_cases {s t : State} (h : step s = .next t) :
    (s.pins.reset = true ∧ t = s.passBoundary.resetSignal.nextTick) ∨
    (s.pins.reset = false ∧ ∃ n, s.acceptable = some (.rst n) ∧
      t = (s.passBoundary.acceptInterrupt n).nextTick) ∨
    (s.pins.reset = false ∧ s.acceptable = none ∧ s.halted = true ∧ t = s.passBoundary) ∨
    (s.pins.reset = false ∧ s.acceptable = none ∧ s.halted = false ∧
      ∃ i len u, s.fetch = .ok (i, len) ∧ exec i (s.beginInstr len) = .next u ∧ t = u.endInstr s.eiPend i) := by
  unfold step at h
  split at h
  · next hr => cases h; exact .inl ⟨hr, rfl⟩
  · next hr =>
    have hr : s.pins.reset = false := by simpa using hr
    split at h
    · next n hn => cases h; exact .inr (.inl ⟨hr, n, hn, rfl⟩)
    · cases h
    · next hn =>
      split at h
      · next hh => cases h; exact .inr (.inr (.inl ⟨hr, hn, hh, rfl⟩))
      · next hh =>
        unfold State.runInstr at h
        split at h
        · cases h
        · next i len hf =>
          split at h
          · next u hu => cases h; exact .inr (.inr (.inr ⟨hr, hn, by simpa using hh, i, len, u, hf, hu, rfl⟩))
          · cases h
          · cases h

/-- A step that fetches an instruction is that instruction between `beginInstr` and `endInstr` (R70). -/
theorem step_of_fetch {s : State} (hs : s.readyToFetch) {i : Instr} {len : Nat} (hf : s.fetch = .ok (i, len)) :
    step s =
      match exec i (s.beginInstr len) with
      | .next t => .next (t.endInstr s.eiPend i)
      | .fault f => .fault f
      | .refused r => .refused r := by
  obtain ⟨hr, hn, hh⟩ := hs
  unfold step
  rw [hr, hn, hh]
  simp only [Bool.false_eq_true, if_false]
  cases he : exec i (s.beginInstr len) <;> simp only [State.runInstr, hf, he]

/-- What an acceptable interrupt says of the state (R223). -/
theorem acceptable_some {s : State} {x : Supply} (h : s.acceptable = some x) :
    s.inte = true ∧ s.eiPend = false ∧ s.pins.reset = false ∧ s.pins.int = some x := by
  unfold State.acceptable at h
  split at h
  · next hc => simp only [Bool.and_eq_true, Bool.not_eq_true'] at hc; exact ⟨hc.1.1, hc.1.2, hc.2, h⟩
  · cases h

end Sys2Proof.Laws
end

