-- ==== Sys2Proof/Laws/PerInstr.lean ====
section
/-! SUPPORT. A fact about every instruction as syntax, one lemma for each constructor: its fields determine it,
and its encoding has the length that R62 gives its opcode byte. -/

namespace Sys2Proof.Laws

open Sys2Proof Sys2Proof.Machine

/-- The instruction is determined by its fields, and its encoding begins with an assigned opcode byte and has
the length of that byte. -/
def Shape.Statement (i : Instr) : Prop :=
  i.form.instr = i ∧ ∃ op rest, encode i = op :: rest ∧ unassignedOpcodes.contains op = false ∧
    (encode i).length = opLength op

theorem Shape.movBB : Shape.Statement .movBB := ⟨rfl, _, _, rfl, rfl, rfl⟩

theorem Shape.movBC : Shape.Statement .movBC := ⟨rfl, _, _, rfl, rfl, rfl⟩

theorem Shape.movBD : Shape.Statement .movBD := ⟨rfl, _, _, rfl, rfl, rfl⟩

theorem Shape.movBE : Shape.Statement .movBE := ⟨rfl, _, _, rfl, rfl, rfl⟩

theorem Shape.movBH : Shape.Statement .movBH := ⟨rfl, _, _, rfl, rfl, rfl⟩

theorem Shape.movBL : Shape.Statement .movBL := ⟨rfl, _, _, rfl, rfl, rfl⟩

theorem Shape.movBA : Shape.Statement .movBA := ⟨rfl, _, _, rfl, rfl, rfl⟩

theorem Shape.movCB : Shape.Statement .movCB := ⟨rfl, _, _, rfl, rfl, rfl⟩

theorem Shape.movCC : Shape.Statement .movCC := ⟨rfl, _, _, rfl, rfl, rfl⟩

theorem Shape.movCD : Shape.Statement .movCD := ⟨rfl, _, _, rfl, rfl, rfl⟩

theorem Shape.movCE : Shape.Statement .movCE := ⟨rfl, _, _, rfl, rfl, rfl⟩

theorem Shape.movCH : Shape.Statement .movCH := ⟨rfl, _, _, rfl, rfl, rfl⟩

theorem Shape.movCL : Shape.Statement .movCL := ⟨rfl, _, _, rfl, rfl, rfl⟩

theorem Shape.movCA : Shape.Statement .movCA := ⟨rfl, _, _, rfl, rfl, rfl⟩

theorem Shape.movDB : Shape.Statement .movDB := ⟨rfl, _, _, rfl, rfl, rfl⟩

theorem Shape.movDC : Shape.Statement .movDC := ⟨rfl, _, _, rfl, rfl, rfl⟩

theorem Shape.movDD : Shape.Statement .movDD := ⟨rfl, _, _, rfl, rfl, rfl⟩

theorem Shape.movDE : Shape.Statement .movDE := ⟨rfl, _, _, rfl, rfl, rfl⟩

theorem Shape.movDH : Shape.Statement .movDH := ⟨rfl, _, _, rfl, rfl, rfl⟩

theorem Shape.movDL : Shape.Statement .movDL := ⟨rfl, _, _, rfl, rfl, rfl⟩

theorem Shape.movDA : Shape.Statement .movDA := ⟨rfl, _, _, rfl, rfl, rfl⟩

theorem Shape.movEB : Shape.Statement .movEB := ⟨rfl, _, _, rfl, rfl, rfl⟩

theorem Shape.movEC : Shape.Statement .movEC := ⟨rfl, _, _, rfl, rfl, rfl⟩

theorem Shape.movED : Shape.Statement .movED := ⟨rfl, _, _, rfl, rfl, rfl⟩

theorem Shape.movEE : Shape.Statement .movEE := ⟨rfl, _, _, rfl, rfl, rfl⟩

theorem Shape.movEH : Shape.Statement .movEH := ⟨rfl, _, _, rfl, rfl, rfl⟩

theorem Shape.movEL : Shape.Statement .movEL := ⟨rfl, _, _, rfl, rfl, rfl⟩

theorem Shape.movEA : Shape.Statement .movEA := ⟨rfl, _, _, rfl, rfl, rfl⟩

theorem Shape.movHB : Shape.Statement .movHB := ⟨rfl, _, _, rfl, rfl, rfl⟩

theorem Shape.movHC : Shape.Statement .movHC := ⟨rfl, _, _, rfl, rfl, rfl⟩

theorem Shape.movHD : Shape.Statement .movHD := ⟨rfl, _, _, rfl, rfl, rfl⟩

theorem Shape.movHE : Shape.Statement .movHE := ⟨rfl, _, _, rfl, rfl, rfl⟩

theorem Shape.movHH : Shape.Statement .movHH := ⟨rfl, _, _, rfl, rfl, rfl⟩

theorem Shape.movHL : Shape.Statement .movHL := ⟨rfl, _, _, rfl, rfl, rfl⟩

theorem Shape.movHA : Shape.Statement .movHA := ⟨rfl, _, _, rfl, rfl, rfl⟩

theorem Shape.movLB : Shape.Statement .movLB := ⟨rfl, _, _, rfl, rfl, rfl⟩

theorem Shape.movLC : Shape.Statement .movLC := ⟨rfl, _, _, rfl, rfl, rfl⟩

theorem Shape.movLD : Shape.Statement .movLD := ⟨rfl, _, _, rfl, rfl, rfl⟩

theorem Shape.movLE : Shape.Statement .movLE := ⟨rfl, _, _, rfl, rfl, rfl⟩

theorem Shape.movLH : Shape.Statement .movLH := ⟨rfl, _, _, rfl, rfl, rfl⟩

theorem Shape.movLL : Shape.Statement .movLL := ⟨rfl, _, _, rfl, rfl, rfl⟩

theorem Shape.movLA : Shape.Statement .movLA := ⟨rfl, _, _, rfl, rfl, rfl⟩

theorem Shape.movAB : Shape.Statement .movAB := ⟨rfl, _, _, rfl, rfl, rfl⟩

theorem Shape.movAC : Shape.Statement .movAC := ⟨rfl, _, _, rfl, rfl, rfl⟩

theorem Shape.movAD : Shape.Statement .movAD := ⟨rfl, _, _, rfl, rfl, rfl⟩

theorem Shape.movAE : Shape.Statement .movAE := ⟨rfl, _, _, rfl, rfl, rfl⟩

theorem Shape.movAH : Shape.Statement .movAH := ⟨rfl, _, _, rfl, rfl, rfl⟩

theorem Shape.movAL : Shape.Statement .movAL := ⟨rfl, _, _, rfl, rfl, rfl⟩

theorem Shape.movAA : Shape.Statement .movAA := ⟨rfl, _, _, rfl, rfl, rfl⟩

theorem Shape.movBM : Shape.Statement .movBM := ⟨rfl, _, _, rfl, rfl, rfl⟩

theorem Shape.movCM : Shape.Statement .movCM := ⟨rfl, _, _, rfl, rfl, rfl⟩

theorem Shape.movDM : Shape.Statement .movDM := ⟨rfl, _, _, rfl, rfl, rfl⟩

theorem Shape.movEM : Shape.Statement .movEM := ⟨rfl, _, _, rfl, rfl, rfl⟩

theorem Shape.movHM : Shape.Statement .movHM := ⟨rfl, _, _, rfl, rfl, rfl⟩

theorem Shape.movLM : Shape.Statement .movLM := ⟨rfl, _, _, rfl, rfl, rfl⟩

theorem Shape.movAM : Shape.Statement .movAM := ⟨rfl, _, _, rfl, rfl, rfl⟩

theorem Shape.movMB : Shape.Statement .movMB := ⟨rfl, _, _, rfl, rfl, rfl⟩

theorem Shape.movMC : Shape.Statement .movMC := ⟨rfl, _, _, rfl, rfl, rfl⟩

theorem Shape.movMD : Shape.Statement .movMD := ⟨rfl, _, _, rfl, rfl, rfl⟩

theorem Shape.movME : Shape.Statement .movME := ⟨rfl, _, _, rfl, rfl, rfl⟩

theorem Shape.movMH : Shape.Statement .movMH := ⟨rfl, _, _, rfl, rfl, rfl⟩

theorem Shape.movML : Shape.Statement .movML := ⟨rfl, _, _, rfl, rfl, rfl⟩

theorem Shape.movMA : Shape.Statement .movMA := ⟨rfl, _, _, rfl, rfl, rfl⟩

theorem Shape.mviB (d8 : Byte) : Shape.Statement (.mviB d8) := ⟨rfl, _, _, rfl, rfl, rfl⟩

theorem Shape.mviC (d8 : Byte) : Shape.Statement (.mviC d8) := ⟨rfl, _, _, rfl, rfl, rfl⟩

theorem Shape.mviD (d8 : Byte) : Shape.Statement (.mviD d8) := ⟨rfl, _, _, rfl, rfl, rfl⟩

theorem Shape.mviE (d8 : Byte) : Shape.Statement (.mviE d8) := ⟨rfl, _, _, rfl, rfl, rfl⟩

theorem Shape.mviH (d8 : Byte) : Shape.Statement (.mviH d8) := ⟨rfl, _, _, rfl, rfl, rfl⟩

theorem Shape.mviL (d8 : Byte) : Shape.Statement (.mviL d8) := ⟨rfl, _, _, rfl, rfl, rfl⟩

theorem Shape.mviA (d8 : Byte) : Shape.Statement (.mviA d8) := ⟨rfl, _, _, rfl, rfl, rfl⟩

theorem Shape.mviM (d8 : Byte) : Shape.Statement (.mviM d8) := ⟨rfl, _, _, rfl, rfl, rfl⟩

theorem Shape.ldaxB : Shape.Statement .ldaxB := ⟨rfl, _, _, rfl, rfl, rfl⟩

theorem Shape.ldaxD : Shape.Statement .ldaxD := ⟨rfl, _, _, rfl, rfl, rfl⟩

theorem Shape.lda (a16 : Word) : Shape.Statement (.lda a16) := ⟨rfl, _, _, rfl, rfl, rfl⟩

theorem Shape.staxB : Shape.Statement .staxB := ⟨rfl, _, _, rfl, rfl, rfl⟩

theorem Shape.staxD : Shape.Statement .staxD := ⟨rfl, _, _, rfl, rfl, rfl⟩

theorem Shape.sta (a16 : Word) : Shape.Statement (.sta a16) := ⟨rfl, _, _, rfl, rfl, rfl⟩

theorem Shape.lxiB (a16 : Word) : Shape.Statement (.lxiB a16) := ⟨rfl, _, _, rfl, rfl, rfl⟩

theorem Shape.lxiD (a16 : Word) : Shape.Statement (.lxiD a16) := ⟨rfl, _, _, rfl, rfl, rfl⟩

theorem Shape.lxiH (a16 : Word) : Shape.Statement (.lxiH a16) := ⟨rfl, _, _, rfl, rfl, rfl⟩

theorem Shape.lxiSP (a16 : Word) : Shape.Statement (.lxiSP a16) := ⟨rfl, _, _, rfl, rfl, rfl⟩

theorem Shape.lhld (a16 : Word) : Shape.Statement (.lhld a16) := ⟨rfl, _, _, rfl, rfl, rfl⟩

theorem Shape.shld (a16 : Word) : Shape.Statement (.shld a16) := ⟨rfl, _, _, rfl, rfl, rfl⟩

theorem Shape.sphl : Shape.Statement .sphl := ⟨rfl, _, _, rfl, rfl, rfl⟩

theorem Shape.pushB : Shape.Statement .pushB := ⟨rfl, _, _, rfl, rfl, rfl⟩

theorem Shape.pushD : Shape.Statement .pushD := ⟨rfl, _, _, rfl, rfl, rfl⟩

theorem Shape.pushH : Shape.Statement .pushH := ⟨rfl, _, _, rfl, rfl, rfl⟩

theorem Shape.pushPSW : Shape.Statement .pushPSW := ⟨rfl, _, _, rfl, rfl, rfl⟩

theorem Shape.popB : Shape.Statement .popB := ⟨rfl, _, _, rfl, rfl, rfl⟩

theorem Shape.popD : Shape.Statement .popD := ⟨rfl, _, _, rfl, rfl, rfl⟩

theorem Shape.popH : Shape.Statement .popH := ⟨rfl, _, _, rfl, rfl, rfl⟩

theorem Shape.popPSW : Shape.Statement .popPSW := ⟨rfl, _, _, rfl, rfl, rfl⟩

theorem Shape.xchg : Shape.Statement .xchg := ⟨rfl, _, _, rfl, rfl, rfl⟩

theorem Shape.xthl : Shape.Statement .xthl := ⟨rfl, _, _, rfl, rfl, rfl⟩

theorem Shape.addB : Shape.Statement .addB := ⟨rfl, _, _, rfl, rfl, rfl⟩

theorem Shape.addC : Shape.Statement .addC := ⟨rfl, _, _, rfl, rfl, rfl⟩

theorem Shape.addD : Shape.Statement .addD := ⟨rfl, _, _, rfl, rfl, rfl⟩

theorem Shape.addE : Shape.Statement .addE := ⟨rfl, _, _, rfl, rfl, rfl⟩

theorem Shape.addH : Shape.Statement .addH := ⟨rfl, _, _, rfl, rfl, rfl⟩

theorem Shape.addL : Shape.Statement .addL := ⟨rfl, _, _, rfl, rfl, rfl⟩

theorem Shape.addA : Shape.Statement .addA := ⟨rfl, _, _, rfl, rfl, rfl⟩

theorem Shape.adi (d8 : Byte) : Shape.Statement (.adi d8) := ⟨rfl, _, _, rfl, rfl, rfl⟩

theorem Shape.addM : Shape.Statement .addM := ⟨rfl, _, _, rfl, rfl, rfl⟩

theorem Shape.adcB : Shape.Statement .adcB := ⟨rfl, _, _, rfl, rfl, rfl⟩

theorem Shape.adcC : Shape.Statement .adcC := ⟨rfl, _, _, rfl, rfl, rfl⟩

theorem Shape.adcD : Shape.Statement .adcD := ⟨rfl, _, _, rfl, rfl, rfl⟩

theorem Shape.adcE : Shape.Statement .adcE := ⟨rfl, _, _, rfl, rfl, rfl⟩

theorem Shape.adcH : Shape.Statement .adcH := ⟨rfl, _, _, rfl, rfl, rfl⟩

theorem Shape.adcL : Shape.Statement .adcL := ⟨rfl, _, _, rfl, rfl, rfl⟩

theorem Shape.adcA : Shape.Statement .adcA := ⟨rfl, _, _, rfl, rfl, rfl⟩

theorem Shape.aci (d8 : Byte) : Shape.Statement (.aci d8) := ⟨rfl, _, _, rfl, rfl, rfl⟩

theorem Shape.adcM : Shape.Statement .adcM := ⟨rfl, _, _, rfl, rfl, rfl⟩

theorem Shape.subB : Shape.Statement .subB := ⟨rfl, _, _, rfl, rfl, rfl⟩

theorem Shape.subC : Shape.Statement .subC := ⟨rfl, _, _, rfl, rfl, rfl⟩

theorem Shape.subD : Shape.Statement .subD := ⟨rfl, _, _, rfl, rfl, rfl⟩

theorem Shape.subE : Shape.Statement .subE := ⟨rfl, _, _, rfl, rfl, rfl⟩

theorem Shape.subH : Shape.Statement .subH := ⟨rfl, _, _, rfl, rfl, rfl⟩

theorem Shape.subL : Shape.Statement .subL := ⟨rfl, _, _, rfl, rfl, rfl⟩

theorem Shape.subA : Shape.Statement .subA := ⟨rfl, _, _, rfl, rfl, rfl⟩

theorem Shape.sui (d8 : Byte) : Shape.Statement (.sui d8) := ⟨rfl, _, _, rfl, rfl, rfl⟩

theorem Shape.subM : Shape.Statement .subM := ⟨rfl, _, _, rfl, rfl, rfl⟩

theorem Shape.sbbB : Shape.Statement .sbbB := ⟨rfl, _, _, rfl, rfl, rfl⟩

theorem Shape.sbbC : Shape.Statement .sbbC := ⟨rfl, _, _, rfl, rfl, rfl⟩

theorem Shape.sbbD : Shape.Statement .sbbD := ⟨rfl, _, _, rfl, rfl, rfl⟩

theorem Shape.sbbE : Shape.Statement .sbbE := ⟨rfl, _, _, rfl, rfl, rfl⟩

theorem Shape.sbbH : Shape.Statement .sbbH := ⟨rfl, _, _, rfl, rfl, rfl⟩

theorem Shape.sbbL : Shape.Statement .sbbL := ⟨rfl, _, _, rfl, rfl, rfl⟩

theorem Shape.sbbA : Shape.Statement .sbbA := ⟨rfl, _, _, rfl, rfl, rfl⟩

theorem Shape.sbi (d8 : Byte) : Shape.Statement (.sbi d8) := ⟨rfl, _, _, rfl, rfl, rfl⟩

theorem Shape.sbbM : Shape.Statement .sbbM := ⟨rfl, _, _, rfl, rfl, rfl⟩

theorem Shape.anaB : Shape.Statement .anaB := ⟨rfl, _, _, rfl, rfl, rfl⟩

theorem Shape.anaC : Shape.Statement .anaC := ⟨rfl, _, _, rfl, rfl, rfl⟩

theorem Shape.anaD : Shape.Statement .anaD := ⟨rfl, _, _, rfl, rfl, rfl⟩

theorem Shape.anaE : Shape.Statement .anaE := ⟨rfl, _, _, rfl, rfl, rfl⟩

theorem Shape.anaH : Shape.Statement .anaH := ⟨rfl, _, _, rfl, rfl, rfl⟩

theorem Shape.anaL : Shape.Statement .anaL := ⟨rfl, _, _, rfl, rfl, rfl⟩

theorem Shape.anaA : Shape.Statement .anaA := ⟨rfl, _, _, rfl, rfl, rfl⟩

theorem Shape.ani (d8 : Byte) : Shape.Statement (.ani d8) := ⟨rfl, _, _, rfl, rfl, rfl⟩

theorem Shape.anaM : Shape.Statement .anaM := ⟨rfl, _, _, rfl, rfl, rfl⟩

theorem Shape.oraB : Shape.Statement .oraB := ⟨rfl, _, _, rfl, rfl, rfl⟩

theorem Shape.oraC : Shape.Statement .oraC := ⟨rfl, _, _, rfl, rfl, rfl⟩

theorem Shape.oraD : Shape.Statement .oraD := ⟨rfl, _, _, rfl, rfl, rfl⟩

theorem Shape.oraE : Shape.Statement .oraE := ⟨rfl, _, _, rfl, rfl, rfl⟩

theorem Shape.oraH : Shape.Statement .oraH := ⟨rfl, _, _, rfl, rfl, rfl⟩

theorem Shape.oraL : Shape.Statement .oraL := ⟨rfl, _, _, rfl, rfl, rfl⟩

theorem Shape.oraA : Shape.Statement .oraA := ⟨rfl, _, _, rfl, rfl, rfl⟩

theorem Shape.ori (d8 : Byte) : Shape.Statement (.ori d8) := ⟨rfl, _, _, rfl, rfl, rfl⟩

theorem Shape.oraM : Shape.Statement .oraM := ⟨rfl, _, _, rfl, rfl, rfl⟩

theorem Shape.xraB : Shape.Statement .xraB := ⟨rfl, _, _, rfl, rfl, rfl⟩

theorem Shape.xraC : Shape.Statement .xraC := ⟨rfl, _, _, rfl, rfl, rfl⟩

theorem Shape.xraD : Shape.Statement .xraD := ⟨rfl, _, _, rfl, rfl, rfl⟩

theorem Shape.xraE : Shape.Statement .xraE := ⟨rfl, _, _, rfl, rfl, rfl⟩

theorem Shape.xraH : Shape.Statement .xraH := ⟨rfl, _, _, rfl, rfl, rfl⟩

theorem Shape.xraL : Shape.Statement .xraL := ⟨rfl, _, _, rfl, rfl, rfl⟩

theorem Shape.xraA : Shape.Statement .xraA := ⟨rfl, _, _, rfl, rfl, rfl⟩

theorem Shape.xri (d8 : Byte) : Shape.Statement (.xri d8) := ⟨rfl, _, _, rfl, rfl, rfl⟩

theorem Shape.xraM : Shape.Statement .xraM := ⟨rfl, _, _, rfl, rfl, rfl⟩

theorem Shape.cmpB : Shape.Statement .cmpB := ⟨rfl, _, _, rfl, rfl, rfl⟩

theorem Shape.cmpC : Shape.Statement .cmpC := ⟨rfl, _, _, rfl, rfl, rfl⟩

theorem Shape.cmpD : Shape.Statement .cmpD := ⟨rfl, _, _, rfl, rfl, rfl⟩

theorem Shape.cmpE : Shape.Statement .cmpE := ⟨rfl, _, _, rfl, rfl, rfl⟩

theorem Shape.cmpH : Shape.Statement .cmpH := ⟨rfl, _, _, rfl, rfl, rfl⟩

theorem Shape.cmpL : Shape.Statement .cmpL := ⟨rfl, _, _, rfl, rfl, rfl⟩

theorem Shape.cmpA : Shape.Statement .cmpA := ⟨rfl, _, _, rfl, rfl, rfl⟩

theorem Shape.cpi (d8 : Byte) : Shape.Statement (.cpi d8) := ⟨rfl, _, _, rfl, rfl, rfl⟩

theorem Shape.cmpM : Shape.Statement .cmpM := ⟨rfl, _, _, rfl, rfl, rfl⟩

theorem Shape.inrB : Shape.Statement .inrB := ⟨rfl, _, _, rfl, rfl, rfl⟩

theorem Shape.inrC : Shape.Statement .inrC := ⟨rfl, _, _, rfl, rfl, rfl⟩

theorem Shape.inrD : Shape.Statement .inrD := ⟨rfl, _, _, rfl, rfl, rfl⟩

theorem Shape.inrE : Shape.Statement .inrE := ⟨rfl, _, _, rfl, rfl, rfl⟩

theorem Shape.inrH : Shape.Statement .inrH := ⟨rfl, _, _, rfl, rfl, rfl⟩

theorem Shape.inrL : Shape.Statement .inrL := ⟨rfl, _, _, rfl, rfl, rfl⟩

theorem Shape.inrA : Shape.Statement .inrA := ⟨rfl, _, _, rfl, rfl, rfl⟩

theorem Shape.inrM : Shape.Statement .inrM := ⟨rfl, _, _, rfl, rfl, rfl⟩

theorem Shape.dcrB : Shape.Statement .dcrB := ⟨rfl, _, _, rfl, rfl, rfl⟩

theorem Shape.dcrC : Shape.Statement .dcrC := ⟨rfl, _, _, rfl, rfl, rfl⟩

theorem Shape.dcrD : Shape.Statement .dcrD := ⟨rfl, _, _, rfl, rfl, rfl⟩

theorem Shape.dcrE : Shape.Statement .dcrE := ⟨rfl, _, _, rfl, rfl, rfl⟩

theorem Shape.dcrH : Shape.Statement .dcrH := ⟨rfl, _, _, rfl, rfl, rfl⟩

theorem Shape.dcrL : Shape.Statement .dcrL := ⟨rfl, _, _, rfl, rfl, rfl⟩

theorem Shape.dcrA : Shape.Statement .dcrA := ⟨rfl, _, _, rfl, rfl, rfl⟩

theorem Shape.dcrM : Shape.Statement .dcrM := ⟨rfl, _, _, rfl, rfl, rfl⟩

theorem Shape.daa : Shape.Statement .daa := ⟨rfl, _, _, rfl, rfl, rfl⟩

theorem Shape.cma : Shape.Statement .cma := ⟨rfl, _, _, rfl, rfl, rfl⟩

theorem Shape.cmc : Shape.Statement .cmc := ⟨rfl, _, _, rfl, rfl, rfl⟩

theorem Shape.stc : Shape.Statement .stc := ⟨rfl, _, _, rfl, rfl, rfl⟩

theorem Shape.nop : Shape.Statement .nop := ⟨rfl, _, _, rfl, rfl, rfl⟩

theorem Shape.hlt : Shape.Statement .hlt := ⟨rfl, _, _, rfl, rfl, rfl⟩

theorem Shape.di : Shape.Statement .di := ⟨rfl, _, _, rfl, rfl, rfl⟩

theorem Shape.ei : Shape.Statement .ei := ⟨rfl, _, _, rfl, rfl, rfl⟩

theorem Shape.dadB : Shape.Statement .dadB := ⟨rfl, _, _, rfl, rfl, rfl⟩

theorem Shape.dadD : Shape.Statement .dadD := ⟨rfl, _, _, rfl, rfl, rfl⟩

theorem Shape.dadH : Shape.Statement .dadH := ⟨rfl, _, _, rfl, rfl, rfl⟩

theorem Shape.dadSP : Shape.Statement .dadSP := ⟨rfl, _, _, rfl, rfl, rfl⟩

theorem Shape.inxB : Shape.Statement .inxB := ⟨rfl, _, _, rfl, rfl, rfl⟩

theorem Shape.inxD : Shape.Statement .inxD := ⟨rfl, _, _, rfl, rfl, rfl⟩

theorem Shape.inxH : Shape.Statement .inxH := ⟨rfl, _, _, rfl, rfl, rfl⟩

theorem Shape.inxSP : Shape.Statement .inxSP := ⟨rfl, _, _, rfl, rfl, rfl⟩

theorem Shape.dcxB : Shape.Statement .dcxB := ⟨rfl, _, _, rfl, rfl, rfl⟩

theorem Shape.dcxD : Shape.Statement .dcxD := ⟨rfl, _, _, rfl, rfl, rfl⟩

theorem Shape.dcxH : Shape.Statement .dcxH := ⟨rfl, _, _, rfl, rfl, rfl⟩

theorem Shape.dcxSP : Shape.Statement .dcxSP := ⟨rfl, _, _, rfl, rfl, rfl⟩

theorem Shape.rlc : Shape.Statement .rlc := ⟨rfl, _, _, rfl, rfl, rfl⟩

theorem Shape.ral : Shape.Statement .ral := ⟨rfl, _, _, rfl, rfl, rfl⟩

theorem Shape.rrc : Shape.Statement .rrc := ⟨rfl, _, _, rfl, rfl, rfl⟩

theorem Shape.rar : Shape.Statement .rar := ⟨rfl, _, _, rfl, rfl, rfl⟩

theorem Shape.jmp (a16 : Word) : Shape.Statement (.jmp a16) := ⟨rfl, _, _, rfl, rfl, rfl⟩

theorem Shape.jnz (a16 : Word) : Shape.Statement (.jnz a16) := ⟨rfl, _, _, rfl, rfl, rfl⟩

theorem Shape.jz (a16 : Word) : Shape.Statement (.jz a16) := ⟨rfl, _, _, rfl, rfl, rfl⟩

theorem Shape.jnc (a16 : Word) : Shape.Statement (.jnc a16) := ⟨rfl, _, _, rfl, rfl, rfl⟩

theorem Shape.jc (a16 : Word) : Shape.Statement (.jc a16) := ⟨rfl, _, _, rfl, rfl, rfl⟩

theorem Shape.jpo (a16 : Word) : Shape.Statement (.jpo a16) := ⟨rfl, _, _, rfl, rfl, rfl⟩

theorem Shape.jpe (a16 : Word) : Shape.Statement (.jpe a16) := ⟨rfl, _, _, rfl, rfl, rfl⟩

theorem Shape.jp (a16 : Word) : Shape.Statement (.jp a16) := ⟨rfl, _, _, rfl, rfl, rfl⟩

theorem Shape.jm (a16 : Word) : Shape.Statement (.jm a16) := ⟨rfl, _, _, rfl, rfl, rfl⟩

theorem Shape.pchl : Shape.Statement .pchl := ⟨rfl, _, _, rfl, rfl, rfl⟩

theorem Shape.call (a16 : Word) : Shape.Statement (.call a16) := ⟨rfl, _, _, rfl, rfl, rfl⟩

theorem Shape.cnz (a16 : Word) : Shape.Statement (.cnz a16) := ⟨rfl, _, _, rfl, rfl, rfl⟩

theorem Shape.cz (a16 : Word) : Shape.Statement (.cz a16) := ⟨rfl, _, _, rfl, rfl, rfl⟩

theorem Shape.cnc (a16 : Word) : Shape.Statement (.cnc a16) := ⟨rfl, _, _, rfl, rfl, rfl⟩

theorem Shape.cc (a16 : Word) : Shape.Statement (.cc a16) := ⟨rfl, _, _, rfl, rfl, rfl⟩

theorem Shape.cpo (a16 : Word) : Shape.Statement (.cpo a16) := ⟨rfl, _, _, rfl, rfl, rfl⟩

theorem Shape.cpe (a16 : Word) : Shape.Statement (.cpe a16) := ⟨rfl, _, _, rfl, rfl, rfl⟩

theorem Shape.cp (a16 : Word) : Shape.Statement (.cp a16) := ⟨rfl, _, _, rfl, rfl, rfl⟩

theorem Shape.cm (a16 : Word) : Shape.Statement (.cm a16) := ⟨rfl, _, _, rfl, rfl, rfl⟩

theorem Shape.ret : Shape.Statement .ret := ⟨rfl, _, _, rfl, rfl, rfl⟩

theorem Shape.rnz : Shape.Statement .rnz := ⟨rfl, _, _, rfl, rfl, rfl⟩

theorem Shape.rz : Shape.Statement .rz := ⟨rfl, _, _, rfl, rfl, rfl⟩

theorem Shape.rnc : Shape.Statement .rnc := ⟨rfl, _, _, rfl, rfl, rfl⟩

theorem Shape.rc : Shape.Statement .rc := ⟨rfl, _, _, rfl, rfl, rfl⟩

theorem Shape.rpo : Shape.Statement .rpo := ⟨rfl, _, _, rfl, rfl, rfl⟩

theorem Shape.rpe : Shape.Statement .rpe := ⟨rfl, _, _, rfl, rfl, rfl⟩

theorem Shape.rp : Shape.Statement .rp := ⟨rfl, _, _, rfl, rfl, rfl⟩

theorem Shape.rm : Shape.Statement .rm := ⟨rfl, _, _, rfl, rfl, rfl⟩

theorem Shape.rst0 : Shape.Statement .rst0 := ⟨rfl, _, _, rfl, rfl, rfl⟩

theorem Shape.rst1 : Shape.Statement .rst1 := ⟨rfl, _, _, rfl, rfl, rfl⟩

theorem Shape.rst2 : Shape.Statement .rst2 := ⟨rfl, _, _, rfl, rfl, rfl⟩

theorem Shape.rst3 : Shape.Statement .rst3 := ⟨rfl, _, _, rfl, rfl, rfl⟩

theorem Shape.rst4 : Shape.Statement .rst4 := ⟨rfl, _, _, rfl, rfl, rfl⟩

theorem Shape.rst5 : Shape.Statement .rst5 := ⟨rfl, _, _, rfl, rfl, rfl⟩

theorem Shape.rst6 : Shape.Statement .rst6 := ⟨rfl, _, _, rfl, rfl, rfl⟩

theorem Shape.rst7 : Shape.Statement .rst7 := ⟨rfl, _, _, rfl, rfl, rfl⟩

theorem Shape.inPort (d8 : Byte) : Shape.Statement (.inPort d8) := ⟨rfl, _, _, rfl, rfl, rfl⟩

theorem Shape.outPort (d8 : Byte) : Shape.Statement (.outPort d8) := ⟨rfl, _, _, rfl, rfl, rfl⟩

end Sys2Proof.Laws
end

