-- ==== Sys2Proof/Machine/Annotations.lean ====
section
/-! DEFINITION. Two annotations of an instruction that no step reads: its clock count (R257, R258, timing only)
and its line of assembly (R69). -/

namespace Sys2Proof.Machine

/-- The two columns of a row of the clock table (R258): MYCPU80, then 8080. -/
def clockColumns (var : Variant) (mycpu80 i8080 : Nat) : Nat :=
  match var with
  | .mycpu80 => mycpu80
  | .i8080 => i8080

/-- Whether INX carries from the low byte into the high byte (45_alu16, section 2). -/
def lowByteCarries (v : Word) : Bool := loByte v == 0xFF#8

/-- Whether DCX borrows from the high byte. -/
def lowByteBorrows (v : Word) : Bool := loByte v == 0x00#8

/-- The clock table (R258), `CM` as corrected there (C4). `s` is the state the operation starts from. -/
def formClocks (f : Form) (s : State) : Nat :=
  let v := s.board.variant
  match f with
  | .mov _ _ => clockColumns v 6 5
  | .movRM _ => clockColumns v 6 7
  | .movMR _ => clockColumns v 6 7
  | .mvi _ _ => clockColumns v 6 7
  | .mviM _ => clockColumns v 8 10
  | .ldax _ => clockColumns v 10 7
  | .stax _ => clockColumns v 10 7
  | .lda _ => clockColumns v 10 13
  | .sta _ => clockColumns v 10 13
  | .lxi _ _ => clockColumns v 8 10
  | .lhld _ => clockColumns v 20 16
  | .shld _ => clockColumns v 20 16
  | .sphl => clockColumns v 8 5
  | .push _ => clockColumns v 8 11
  | .pushPsw => clockColumns v 8 11
  | .pop _ => clockColumns v 8 10
  | .popPsw => clockColumns v 8 10
  | .xchg => clockColumns v 16 4
  | .xthl => clockColumns v 16 18
  | .alu _ (.reg _) => clockColumns v 10 4
  | .alu _ .mem => clockColumns v 10 7
  | .alu _ (.imm _) => clockColumns v 10 7
  | .inr _ => clockColumns v 8 5
  | .dcr _ => clockColumns v 8 5
  | .inrM => clockColumns v 8 10
  | .dcrM => clockColumns v 8 10
  | .daa => clockColumns v 10 4
  | .cma => clockColumns v 10 4
  | .cmc => clockColumns v 6 4
  | .stc => clockColumns v 6 4
  | .nop => clockColumns v 4 4
  | .hlt => clockColumns v 4 7
  | .di => clockColumns v 6 4
  | .ei => clockColumns v 6 4
  | .dad _ => clockColumns v 16 10
  | .inx p => clockColumns v (if lowByteCarries (s.pairSp p) then 12 else 8) 5
  | .dcx p => clockColumns v (if lowByteBorrows (s.pairSp p) then 12 else 8) 5
  | .rlc => clockColumns v 10 4
  | .ral => clockColumns v 10 4
  | .rrc => clockColumns v 10 4
  | .rar => clockColumns v 10 4
  | .jmp _ => clockColumns v 12 10
  | .jcond cc _ => clockColumns v (if condHolds cc s.flags then 12 else 8) 10
  | .pchl => clockColumns v 8 5
  | .call _ => clockColumns v 18 17
  | .ccond cc _ => if condHolds cc s.flags then clockColumns v 18 17 else clockColumns v 8 10
  | .ret => clockColumns v 8 10
  | .rcond cc => if condHolds cc s.flags then clockColumns v 8 11 else clockColumns v 4 5
  | .rst _ => clockColumns v 12 11
  | .inPort _ => clockColumns v 8 10
  | .outPort _ => clockColumns v 8 10

/-- The clock count of an instruction, performed from `s`. -/
def clocks (i : Instr) (s : State) : Nat := formClocks i.form s

/-- A hexadecimal digit. -/
def hexDigit (v : BitVec 4) : String :=
  ["0", "1", "2", "3", "4", "5", "6", "7", "8", "9", "A", "B", "C", "D", "E", "F"].getD v.toNat ""

/-- An 8-bit operand: two hexadecimal digits, the most significant first (R69). -/
def hexByte (v : Byte) : String := hexDigit (v.extractLsb' 4 4) ++ hexDigit (v.extractLsb' 0 4)

/-- A 16-bit operand: four hexadecimal digits, the most significant first (R69). -/
def hexWord (v : Word) : String := hexByte (hiByte v) ++ hexByte (loByte v)

def regLetter (r : Reg) : String :=
  match r with
  | .b => "B"
  | .c => "C"
  | .d => "D"
  | .e => "E"
  | .h => "H"
  | .l => "L"
  | .a => "A"

/-- A pair is named by its first register (R15, R69). -/
def pairLetter (p : Pair) : String := regLetter (pairHi p)

def pairSpName (p : PairSp) : String :=
  match p with
  | .bc => "B"
  | .de => "D"
  | .hl => "H"
  | .sp => "SP"

def pairIxName (p : PairIx) : String :=
  match p with
  | .bc => "B"
  | .de => "D"

/-- The mnemonic of an accumulator operation with a register or M, and with an immediate (R63). -/
def aluNames (op : AluOp) : String × String :=
  match op with
  | .add => ("ADD", "ADI")
  | .adc => ("ADC", "ACI")
  | .sub => ("SUB", "SUI")
  | .sbb => ("SBB", "SBI")
  | .ana => ("ANA", "ANI")
  | .xra => ("XRA", "XRI")
  | .ora => ("ORA", "ORI")
  | .cmp => ("CMP", "CPI")

/-- The condition suffixes (R69, R93). -/
def condSuffix (cc : Cond) : String :=
  match cc with
  | .nz => "NZ"
  | .z => "Z"
  | .nc => "NC"
  | .c => "C"
  | .po => "PO"
  | .pe => "PE"
  | .p => "P"
  | .m => "M"

/-- A line of assembly: the mnemonic, then the operands, destination first (R69). -/
def formAssembly (f : Form) : String :=
  match f with
  | .mov dst src => "MOV " ++ regLetter dst ++ "," ++ regLetter src
  | .movRM dst => "MOV " ++ regLetter dst ++ ",M"
  | .movMR src => "MOV M," ++ regLetter src
  | .mvi dst d8 => "MVI " ++ regLetter dst ++ "," ++ hexByte d8
  | .mviM d8 => "MVI M," ++ hexByte d8
  | .ldax p => "LDAX " ++ pairIxName p
  | .lda a16 => "LDA " ++ hexWord a16
  | .stax p => "STAX " ++ pairIxName p
  | .sta a16 => "STA " ++ hexWord a16
  | .lxi p d16 => "LXI " ++ pairSpName p ++ "," ++ hexWord d16
  | .lhld a16 => "LHLD " ++ hexWord a16
  | .shld a16 => "SHLD " ++ hexWord a16
  | .sphl => "SPHL"
  | .push p => "PUSH " ++ pairLetter p
  | .pushPsw => "PUSH PSW"
  | .pop p => "POP " ++ pairLetter p
  | .popPsw => "POP PSW"
  | .xchg => "XCHG"
  | .xthl => "XTHL"
  | .alu op (.reg r) => (aluNames op).1 ++ " " ++ regLetter r
  | .alu op .mem => (aluNames op).1 ++ " M"
  | .alu op (.imm d8) => (aluNames op).2 ++ " " ++ hexByte d8
  | .inr r => "INR " ++ regLetter r
  | .inrM => "INR M"
  | .dcr r => "DCR " ++ regLetter r
  | .dcrM => "DCR M"
  | .daa => "DAA"
  | .cma => "CMA"
  | .cmc => "CMC"
  | .stc => "STC"
  | .nop => "NOP"
  | .hlt => "HLT"
  | .di => "DI"
  | .ei => "EI"
  | .dad p => "DAD " ++ pairSpName p
  | .inx p => "INX " ++ pairSpName p
  | .dcx p => "DCX " ++ pairSpName p
  | .rlc => "RLC"
  | .ral => "RAL"
  | .rrc => "RRC"
  | .rar => "RAR"
  | .jmp a16 => "JMP " ++ hexWord a16
  | .jcond cc a16 => "J" ++ condSuffix cc ++ " " ++ hexWord a16
  | .pchl => "PCHL"
  | .call a16 => "CALL " ++ hexWord a16
  | .ccond cc a16 => "C" ++ condSuffix cc ++ " " ++ hexWord a16
  | .ret => "RET"
  | .rcond cc => "R" ++ condSuffix cc
  | .rst n => "RST " ++ hexDigit (BitVec.ofNat 4 n.val)
  | .inPort port => "IN " ++ hexByte port
  | .outPort port => "OUT " ++ hexByte port

/-- An instruction in the manual's assembler notation (R69). -/
def assembly (i : Instr) : String := formAssembly i.form

end Sys2Proof.Machine
end

