-- ==== Sys2Proof/Tests/Slice0.lean ====
section
/-! SUPPORT. The model's own tests: the checks of WellFormed, every constructor's encoding from the tables of
the instruction rules, the single-step vectors of 95_test_vectors.md part 2, and single boundaries of part 3. -/

namespace Sys2Proof.Tests

open Sys2Proof Sys2Proof.Machine

/-! ### WellFormed: a term that each check refuses -/

theorem test_region_accepted : Region.wellFormed { lo := 0x0000, hi := 0x07FF, kind := .rom } = true := by decide

theorem test_region_that_wraps_refused : Region.wellFormed { lo := 0xFFFF, hi := 0x0000, kind := .rom } = false := by
  decide

theorem test_board_with_bad_region_refused :
    Board.wellFormed { Board.default with memMap := [{ lo := 0x0001, hi := 0x0000, kind := .ram }] } = false := by
  decide

theorem test_default_board_accepted : Board.wellFormed Board.default = true := by decide

theorem test_memory_out_of_order_refused : ¬ Memory.wf [(1, 0x01), (0, 0x01)] := by decide

theorem test_memory_outside_refused : ¬ Memory.wf [(65536, 0x01)] := by decide

theorem test_memory_unlisted_value_refused : ¬ Memory.wf [(1, 0x00)] := by decide

/-! ### Decoding: the bytes of the encoding tables (R101 to R211), operand bytes 34 12 -/

/-- Whether each list of bytes decodes to its instruction, with nothing left over. -/
def decodesTo (l : List (List Byte × Instr)) : Bool :=
  l.all fun x => match decode x.1 with
    | .ok (i, []) => decide (i = x.2) && decide (encode x.2 = x.1)
    | _ => false

theorem test_decode_transfer8_1 : decodesTo [
   ([0x40], .movBB), ([0x41], .movBC), ([0x42], .movBD), ([0x43], .movBE), ([0x44], .movBH), ([0x45], .movBL),
   ([0x47], .movBA), ([0x48], .movCB), ([0x49], .movCC), ([0x4A], .movCD), ([0x4B], .movCE), ([0x4C], .movCH),
   ([0x4D], .movCL), ([0x4F], .movCA), ([0x50], .movDB), ([0x51], .movDC), ([0x52], .movDD), ([0x53], .movDE),
   ([0x54], .movDH), ([0x55], .movDL), ([0x57], .movDA), ([0x58], .movEB), ([0x59], .movEC), ([0x5A], .movED),
   ([0x5B], .movEE), ([0x5C], .movEH), ([0x5D], .movEL), ([0x5F], .movEA), ([0x60], .movHB), ([0x61], .movHC),
   ([0x62], .movHD), ([0x63], .movHE), ([0x64], .movHH), ([0x65], .movHL), ([0x67], .movHA), ([0x68], .movLB),
   ([0x69], .movLC), ([0x6A], .movLD), ([0x6B], .movLE), ([0x6C], .movLH), ([0x6D], .movLL), ([0x6F], .movLA),
   ([0x78], .movAB), ([0x79], .movAC), ([0x7A], .movAD), ([0x7B], .movAE), ([0x7C], .movAH), ([0x7D], .movAL),
   ([0x7F], .movAA), ([0x46], .movBM), ([0x4E], .movCM), ([0x56], .movDM), ([0x5E], .movEM), ([0x66], .movHM),
   ([0x6E], .movLM), ([0x7E], .movAM), ([0x70], .movMB), ([0x71], .movMC), ([0x72], .movMD), ([0x73], .movME),
   ([0x74], .movMH), ([0x75], .movML), ([0x77], .movMA), ([0x06, 0x34], .mviB 0x34)] = true := by decide +kernel

theorem test_decode_transfer8_2 : decodesTo [
   ([0x0E, 0x34], .mviC 0x34), ([0x16, 0x34], .mviD 0x34), ([0x1E, 0x34], .mviE 0x34), ([0x26, 0x34], .mviH 0x34),
   ([0x2E, 0x34], .mviL 0x34), ([0x3E, 0x34], .mviA 0x34), ([0x36, 0x34], .mviM 0x34), ([0x0A], .ldaxB),
   ([0x1A], .ldaxD), ([0x3A, 0x34, 0x12], .lda 0x1234), ([0x02], .staxB), ([0x12], .staxD),
   ([0x32, 0x34, 0x12], .sta 0x1234)] = true := by decide +kernel

theorem test_decode_transfer16 : decodesTo [
   ([0x01, 0x34, 0x12], .lxiB 0x1234), ([0x11, 0x34, 0x12], .lxiD 0x1234), ([0x21, 0x34, 0x12], .lxiH 0x1234),
   ([0x31, 0x34, 0x12], .lxiSP 0x1234), ([0x2A, 0x34, 0x12], .lhld 0x1234), ([0x22, 0x34, 0x12], .shld 0x1234),
   ([0xF9], .sphl), ([0xC5], .pushB), ([0xD5], .pushD), ([0xE5], .pushH), ([0xF5], .pushPSW), ([0xC1], .popB),
   ([0xD1], .popD), ([0xE1], .popH), ([0xF1], .popPSW)] = true := by decide +kernel

theorem test_decode_exchange : decodesTo [
   ([0xEB], .xchg), ([0xE3], .xthl)] = true := by decide +kernel

theorem test_decode_alu8_1 : decodesTo [
   ([0x80], .addB), ([0x81], .addC), ([0x82], .addD), ([0x83], .addE), ([0x84], .addH), ([0x85], .addL),
   ([0x87], .addA), ([0xC6, 0x34], .adi 0x34), ([0x86], .addM), ([0x88], .adcB), ([0x89], .adcC), ([0x8A], .adcD),
   ([0x8B], .adcE), ([0x8C], .adcH), ([0x8D], .adcL), ([0x8F], .adcA), ([0xCE, 0x34], .aci 0x34), ([0x8E], .adcM),
   ([0x90], .subB), ([0x91], .subC), ([0x92], .subD), ([0x93], .subE), ([0x94], .subH), ([0x95], .subL),
   ([0x97], .subA), ([0xD6, 0x34], .sui 0x34), ([0x96], .subM), ([0x98], .sbbB), ([0x99], .sbbC), ([0x9A], .sbbD),
   ([0x9B], .sbbE), ([0x9C], .sbbH), ([0x9D], .sbbL), ([0x9F], .sbbA), ([0xDE, 0x34], .sbi 0x34), ([0x9E], .sbbM),
   ([0xA0], .anaB), ([0xA1], .anaC), ([0xA2], .anaD), ([0xA3], .anaE), ([0xA4], .anaH), ([0xA5], .anaL),
   ([0xA7], .anaA), ([0xE6, 0x34], .ani 0x34), ([0xA6], .anaM), ([0xB0], .oraB), ([0xB1], .oraC), ([0xB2], .oraD),
   ([0xB3], .oraE), ([0xB4], .oraH), ([0xB5], .oraL), ([0xB7], .oraA), ([0xF6, 0x34], .ori 0x34), ([0xB6], .oraM),
   ([0xA8], .xraB), ([0xA9], .xraC), ([0xAA], .xraD), ([0xAB], .xraE), ([0xAC], .xraH), ([0xAD], .xraL),
   ([0xAF], .xraA), ([0xEE, 0x34], .xri 0x34), ([0xAE], .xraM), ([0xB8], .cmpB)] = true := by decide +kernel

theorem test_decode_alu8_2 : decodesTo [
   ([0xB9], .cmpC), ([0xBA], .cmpD), ([0xBB], .cmpE), ([0xBC], .cmpH), ([0xBD], .cmpL), ([0xBF], .cmpA),
   ([0xFE, 0x34], .cpi 0x34), ([0xBE], .cmpM), ([0x04], .inrB), ([0x0C], .inrC), ([0x14], .inrD), ([0x1C], .inrE),
   ([0x24], .inrH), ([0x2C], .inrL), ([0x3C], .inrA), ([0x34], .inrM), ([0x05], .dcrB), ([0x0D], .dcrC),
   ([0x15], .dcrD), ([0x1D], .dcrE), ([0x25], .dcrH), ([0x2D], .dcrL), ([0x3D], .dcrA), ([0x35], .dcrM)] = true := by decide +kernel

theorem test_decode_misc_control : decodesTo [
   ([0x27], .daa), ([0x2F], .cma), ([0x3F], .cmc), ([0x37], .stc), ([0x00], .nop), ([0x76], .hlt), ([0xF3], .di),
   ([0xFB], .ei)] = true := by decide +kernel

theorem test_decode_alu16 : decodesTo [
   ([0x09], .dadB), ([0x19], .dadD), ([0x29], .dadH), ([0x39], .dadSP), ([0x03], .inxB), ([0x13], .inxD),
   ([0x23], .inxH), ([0x33], .inxSP), ([0x0B], .dcxB), ([0x1B], .dcxD), ([0x2B], .dcxH), ([0x3B], .dcxSP)] = true := by decide +kernel

theorem test_decode_rotate : decodesTo [
   ([0x07], .rlc), ([0x17], .ral), ([0x0F], .rrc), ([0x1F], .rar)] = true := by decide +kernel

theorem test_decode_jump : decodesTo [
   ([0xC3, 0x34, 0x12], .jmp 0x1234), ([0xC2, 0x34, 0x12], .jnz 0x1234), ([0xCA, 0x34, 0x12], .jz 0x1234),
   ([0xD2, 0x34, 0x12], .jnc 0x1234), ([0xDA, 0x34, 0x12], .jc 0x1234), ([0xE2, 0x34, 0x12], .jpo 0x1234),
   ([0xEA, 0x34, 0x12], .jpe 0x1234), ([0xF2, 0x34, 0x12], .jp 0x1234), ([0xFA, 0x34, 0x12], .jm 0x1234),
   ([0xE9], .pchl)] = true := by decide +kernel

theorem test_decode_call_return : decodesTo [
   ([0xCD, 0x34, 0x12], .call 0x1234), ([0xC4, 0x34, 0x12], .cnz 0x1234), ([0xCC, 0x34, 0x12], .cz 0x1234),
   ([0xD4, 0x34, 0x12], .cnc 0x1234), ([0xDC, 0x34, 0x12], .cc 0x1234), ([0xE4, 0x34, 0x12], .cpo 0x1234),
   ([0xEC, 0x34, 0x12], .cpe 0x1234), ([0xF4, 0x34, 0x12], .cp 0x1234), ([0xFC, 0x34, 0x12], .cm 0x1234),
   ([0xC9], .ret), ([0xC0], .rnz), ([0xC8], .rz), ([0xD0], .rnc), ([0xD8], .rc), ([0xE0], .rpo), ([0xE8], .rpe),
   ([0xF0], .rp), ([0xF8], .rm), ([0xC7], .rst0), ([0xCF], .rst1), ([0xD7], .rst2), ([0xDF], .rst3), ([0xE7], .rst4),
   ([0xEF], .rst5), ([0xF7], .rst6), ([0xFF], .rst7)] = true := by decide +kernel

theorem test_decode_in_out : decodesTo [
   ([0xDB, 0x34], .inPort 0x34), ([0xD3, 0x34], .outPort 0x34)] = true := by decide +kernel

theorem test_unassigned_bytes :
    ([0x08, 0x10, 0x18, 0x20, 0x28, 0x30, 0x38, 0xCB, 0xD9, 0xDD, 0xED, 0xFD].all fun op =>
      decide (decodeTableWord 8 op = none)) = true := by decide +kernel

theorem test_table_word_numbering : decodeTableWord 24 0x12343A = some (.lda 0x1234) := by decide +kernel

/-! ### The vectors of 95_test_vectors.md part 2 -/

/-- One item of a vector's "before" or "after" column. -/
inductive Item
  | reg (r : Reg) (v : Byte)
  | flagS (b : Bool) | flagZ (b : Bool) | flagH (b : Bool) | flagP (b : Bool) | flagC (b : Bool)
  | sp (v : Word) | pc (v : Word)
  | inte (b : Bool) | eiPend (b : Bool) | halted (b : Bool)
  | mem (a : Word) (v : Byte)
  | variant (v : Variant) | daaH (v : DaaH)
  | answer (v : Byte) | noAnswer
  | out (port v : Byte)

def Item.apply (s : State) (x : Item) : State :=
  match x with
  | .reg r v => s.setReg r v
  | .flagS b => { s with flags := { s.flags with s := b } }
  | .flagZ b => { s with flags := { s.flags with z := b } }
  | .flagH b => { s with flags := { s.flags with h := b } }
  | .flagP b => { s with flags := { s.flags with p := b } }
  | .flagC b => { s with flags := { s.flags with c := b } }
  | .sp v => { s with sp := v }
  | .pc v => { s with pc := v }
  | .inte b => { s with inte := b }
  | .eiPend b => { s with eiPend := b }
  | .halted b => { s with halted := b }
  | .mem a v => { s with mem := s.mem.write a.toNat v }
  | .variant v => { s with board := { s.board with variant := v } }
  | .daaH v => { s with board := { s.board with daaH := v } }
  | .answer v => { s with ioIn := [v] }
  | .noAnswer => { s with ioIn := [] }
  | .out p v => { s with output := s.output ++ [.ioWrite p v] }

/-- A row: where the instruction stands, its bytes, what is not zero before, and all that differs after. -/
structure Row where
  pc : Word
  code : List Byte
  before : List Item
  after : List Item

/-- The state a row starts from: the memory items first, then the code. -/
def Row.start (r : Row) : State :=
  let s := r.before.foldl Item.apply State.reset
  { s with pc := r.pc, mem := s.mem.writeBytes r.pc r.code }

/-- One step from the row's state gives exactly what the row says; all else is unchanged. -/
def Row.holds (r : Row) : Bool :=
  match step r.start with
  | .next t => decide (t = { r.after.foldl Item.apply r.start with tick := 1 })
  | .fault _ => false
  | .refused _ => false

/-- 2.1 -/
theorem test_vectors_transfer8 : List.all [
   ⟨0x0100, [0x41], [.flagZ true, .flagC true, .reg .b 0x11, .reg .c 0x22], [.reg .b 0x22, .pc 0x0101]⟩,
   ⟨0x0100, [0x7F], [.flagS true, .reg .a 0x5A], [.pc 0x0101]⟩,
   ⟨0x0100, [0x6C], [.reg .h 0x12, .reg .l 0xFF], [.reg .l 0x12, .pc 0x0101]⟩,
   ⟨0x0100, [0x16, 0x7E], [.flagP true, .reg .d 0x01], [.reg .d 0x7E, .pc 0x0102]⟩,
   ⟨0x0100, [0x3E, 0x00], [.flagZ false, .reg .a 0xFF], [.reg .a 0x00, .pc 0x0102]⟩,
   ⟨0x0100, [0x5E], [.reg .h 0x20, .reg .l 0x00, .mem 0x2000 0xA5], [.reg .e 0xA5, .pc 0x0101]⟩,
   ⟨0x0100, [0x66], [.reg .h 0x20, .reg .l 0x00, .mem 0x2000 0x30], [.reg .h 0x30, .pc 0x0101]⟩,
   ⟨0x0100, [0x77], [.reg .a 0x99, .reg .h 0x20, .reg .l 0x00], [.mem 0x2000 0x99, .pc 0x0101]⟩,
   ⟨0x0100, [0x75], [.reg .h 0x20, .reg .l 0xFE], [.mem 0x20FE 0xFE, .pc 0x0101]⟩,
   ⟨0x0100, [0x36, 0x4D], [.reg .h 0xFF, .reg .l 0xFF], [.mem 0xFFFF 0x4D, .pc 0x0102]⟩,
   ⟨0x0100, [0x0A], [.reg .b 0x20, .reg .c 0x01, .mem 0x2001 0x42], [.reg .a 0x42, .pc 0x0101]⟩,
   ⟨0x0100, [0x1A], [.reg .d 0x00, .reg .e 0x00, .mem 0x0000 0xC3], [.reg .a 0xC3, .pc 0x0101]⟩,
   ⟨0x0100, [0x3A, 0x34, 0x12], [.flagC true, .mem 0x1234 0x77], [.reg .a 0x77, .pc 0x0103]⟩,
   ⟨0x0100, [0x3A, 0xFF, 0xFF], [.mem 0xFFFF 0x01], [.reg .a 0x01, .pc 0x0103]⟩,
   ⟨0x0100, [0x02], [.reg .a 0x55, .reg .b 0x30, .reg .c 0x00], [.mem 0x3000 0x55, .pc 0x0101]⟩,
   ⟨0x0100, [0x12], [.reg .a 0x66, .reg .d 0xFF, .reg .e 0xFF], [.mem 0xFFFF 0x66, .pc 0x0101]⟩,
   ⟨0x0100, [0x32, 0x00, 0x30], [.reg .a 0x0F], [.mem 0x3000 0x0F, .pc 0x0103]⟩,
   ⟨0x0100, [0x32, 0x02, 0x01], [.reg .a 0x76], [.mem 0x0102 0x76, .pc 0x0103]⟩,
   ⟨0x0100, [0x77], [.reg .a 0x76, .reg .h 0x01, .reg .l 0x01], [.mem 0x0101 0x76, .pc 0x0101]⟩] Row.holds = true := by decide +kernel

/-- 2.2 -/
theorem test_vectors_transfer16 : List.all [
   ⟨0x0100, [0x01, 0x34, 0x12], [.flagZ true], [.reg .b 0x12, .reg .c 0x34, .pc 0x0103]⟩,
   ⟨0x0100, [0x11, 0xFF, 0x00], [], [.reg .e 0xFF, .pc 0x0103]⟩,
   ⟨0x0100, [0x21, 0x00, 0x80], [], [.reg .h 0x80, .pc 0x0103]⟩,
   ⟨0x0100, [0x31, 0x00, 0xF0], [], [.sp 0xF000, .pc 0x0103]⟩,
   ⟨0x0100, [0x2A, 0x00, 0x20], [.mem 0x2000 0xCD, .mem 0x2001 0xAB], [.reg .h 0xAB, .reg .l 0xCD, .pc 0x0103]⟩,
   ⟨0x0100, [0x2A, 0xFF, 0xFF], [.mem 0xFFFF 0x11, .mem 0x0000 0x22], [.reg .h 0x22, .reg .l 0x11, .pc 0x0103]⟩,
   ⟨0x0100, [0x22, 0x00, 0x20], [.reg .h 0xAB, .reg .l 0xCD], [.mem 0x2000 0xCD, .mem 0x2001 0xAB, .pc 0x0103]⟩,
   ⟨0x0100, [0x22, 0xFF, 0xFF], [.reg .h 0x12, .reg .l 0x34], [.mem 0xFFFF 0x34, .mem 0x0000 0x12, .pc 0x0103]⟩,
   ⟨0x0100, [0xF9], [.reg .h 0xE0, .reg .l 0x00, .sp 0x1111], [.sp 0xE000, .pc 0x0101]⟩,
   ⟨0x0100, [0xC5], [.flagC true, .reg .b 0x12, .reg .c 0x34, .sp 0xF000], [.mem 0xEFFF 0x12, .mem 0xEFFE 0x34, .sp 0xEFFE, .pc 0x0101]⟩,
   ⟨0x0100, [0xD5], [.reg .d 0xA5, .reg .e 0x5A, .sp 0x0001], [.mem 0x0000 0xA5, .mem 0xFFFF 0x5A, .sp 0xFFFF, .pc 0x0101]⟩,
   ⟨0x0100, [0xE5], [.reg .h 0xBE, .reg .l 0xEF, .sp 0x0000], [.mem 0xFFFF 0xBE, .mem 0xFFFE 0xEF, .sp 0xFFFE, .pc 0x0101]⟩,
   ⟨0x0100, [0xC1], [.sp 0xEFFE, .mem 0xEFFE 0x34, .mem 0xEFFF 0x12], [.reg .b 0x12, .reg .c 0x34, .sp 0xF000, .pc 0x0101]⟩,
   ⟨0x0100, [0xD1], [.sp 0xFFFF, .mem 0xFFFF 0xCD, .mem 0x0000 0xAB], [.reg .d 0xAB, .reg .e 0xCD, .sp 0x0001, .pc 0x0101]⟩,
   ⟨0x0100, [0xE1], [.sp 0xFFFE, .mem 0xFFFE 0x01, .mem 0xFFFF 0x02], [.reg .h 0x02, .reg .l 0x01, .sp 0x0000, .pc 0x0101]⟩,
   ⟨0x0100, [0xF1], [.sp 0xEFFE, .mem 0xEFFE 0xFF, .mem 0xEFFF 0x12], [.reg .a 0x12, .flagS true, .flagZ true, .flagH true, .flagP true, .flagC true, .sp 0xF000, .pc 0x0101]⟩,
   ⟨0x0100, [0xF1], [.flagS true, .flagZ true, .flagH true, .flagP true, .flagC true, .sp 0xEFFE, .mem 0xEFFE 0x2A, .mem 0xEFFF 0x80], [.reg .a 0x80, .flagS false, .flagZ false, .flagH false, .flagP false, .flagC false, .sp 0xF000, .pc 0x0101]⟩,
   ⟨0x0100, [0xF1], [.sp 0xEFFE, .mem 0xEFFE 0x45, .mem 0xEFFF 0x00], [.flagS false, .flagZ true, .flagH false, .flagP true, .flagC true, .sp 0xF000, .pc 0x0101]⟩] Row.holds = true := by decide +kernel

/-- 2.3 -/
theorem test_vectors_exchange : List.all [
   ⟨0x0100, [0xEB], [.flagZ true, .reg .d 0x12, .reg .e 0x34, .reg .h 0xAB, .reg .l 0xCD], [.reg .d 0xAB, .reg .e 0xCD, .reg .h 0x12, .reg .l 0x34, .pc 0x0101]⟩,
   ⟨0x0100, [0xEB], [.reg .d 0x77, .reg .e 0x77, .reg .h 0x77, .reg .l 0x77], [.pc 0x0101]⟩,
   ⟨0x0100, [0xE3], [.reg .h 0xAB, .reg .l 0xCD, .sp 0xEFFE, .mem 0xEFFE 0x34, .mem 0xEFFF 0x12], [.reg .h 0x12, .reg .l 0x34, .mem 0xEFFE 0xCD, .mem 0xEFFF 0xAB, .pc 0x0101]⟩,
   ⟨0x0100, [0xE3], [.reg .h 0x01, .reg .l 0x02, .sp 0xFFFF, .mem 0xFFFF 0xAA, .mem 0x0000 0xBB], [.reg .h 0xBB, .reg .l 0xAA, .mem 0xFFFF 0x02, .mem 0x0000 0x01, .pc 0x0101]⟩] Row.holds = true := by decide +kernel

/-- 2.4 -/
theorem test_vectors_alu8_1 : List.all [
   ⟨0x0100, [0x80], [.reg .a 0x3A, .reg .b 0xC6], [.reg .a 0x00, .flagS false, .flagZ true, .flagH true, .flagP true, .flagC true, .pc 0x0101]⟩,
   ⟨0x0100, [0x80], [.reg .a 0x2E, .reg .b 0x6C], [.reg .a 0x9A, .flagS true, .flagZ false, .flagH true, .flagP true, .flagC false, .pc 0x0101]⟩,
   ⟨0x0100, [0x80], [.variant .mycpu80, .flagP false, .reg .a 0x2E, .reg .b 0x6C], [.reg .a 0x9A, .flagS true, .flagZ false, .flagH true, .flagP false, .flagC false, .pc 0x0101]⟩,
   ⟨0x0100, [0x80], [.variant .mycpu80, .flagP true, .reg .a 0x2E, .reg .b 0x6D], [.reg .a 0x9B, .flagS true, .flagZ false, .flagH true, .flagP true, .flagC false, .pc 0x0101]⟩,
   ⟨0x0100, [0x87], [.reg .a 0x80], [.reg .a 0x00, .flagS false, .flagZ true, .flagH false, .flagP true, .flagC true, .pc 0x0101]⟩,
   ⟨0x0100, [0x87], [.reg .a 0xFF], [.reg .a 0xFE, .flagS true, .flagZ false, .flagH true, .flagP false, .flagC true, .pc 0x0101]⟩,
   ⟨0x0100, [0x86], [.flagC true, .flagH true, .reg .a 0x10, .reg .h 0x20, .reg .l 0x00, .mem 0x2000 0x0F], [.reg .a 0x1F, .flagS false, .flagZ false, .flagH false, .flagP false, .flagC false, .pc 0x0101]⟩,
   ⟨0x0100, [0xC6, 0x01], [.reg .a 0x7F], [.reg .a 0x80, .flagS true, .flagZ false, .flagH true, .flagP false, .flagC false, .pc 0x0102]⟩,
   ⟨0x0100, [0xC6, 0x01], [.reg .a 0xFF], [.reg .a 0x00, .flagS false, .flagZ true, .flagH true, .flagP true, .flagC true, .pc 0x0102]⟩,
   ⟨0x0100, [0x89], [.flagC true, .reg .a 0x3D, .reg .c 0x42], [.reg .a 0x80, .flagS true, .flagZ false, .flagH true, .flagP false, .flagC false, .pc 0x0101]⟩,
   ⟨0x0100, [0x89], [.flagC false, .reg .a 0x3D, .reg .c 0x42], [.reg .a 0x7F, .flagS false, .flagZ false, .flagH false, .flagP false, .flagC false, .pc 0x0101]⟩,
   ⟨0x0100, [0x89], [.flagC true, .reg .a 0xFF, .reg .c 0x00], [.reg .a 0x00, .flagS false, .flagZ true, .flagH true, .flagP true, .flagC true, .pc 0x0101]⟩,
   ⟨0x0100, [0xCE, 0x00], [.flagC true, .reg .a 0x0F], [.reg .a 0x10, .flagS false, .flagZ false, .flagH true, .flagP false, .flagC false, .pc 0x0102]⟩,
   ⟨0x0100, [0xCE, 0xFF], [.flagC true, .reg .a 0x00], [.flagS false, .flagZ true, .flagH true, .flagP true, .flagC true, .pc 0x0102]⟩,
   ⟨0x0100, [0x8E], [.flagC true, .reg .a 0x01, .reg .h 0x20, .reg .l 0x00, .mem 0x2000 0xFE], [.reg .a 0x00, .flagS false, .flagZ true, .flagH true, .flagP true, .flagC true, .pc 0x0101]⟩,
   ⟨0x0100, [0x90], [.reg .a 0x3E, .reg .b 0x3E], [.reg .a 0x00, .flagS false, .flagZ true, .flagH false, .flagP true, .flagC false, .pc 0x0101]⟩,
   ⟨0x0100, [0x97], [.flagC true, .reg .a 0x5A], [.reg .a 0x00, .flagS false, .flagZ true, .flagH false, .flagP true, .flagC false, .pc 0x0101]⟩,
   ⟨0x0100, [0x90], [.reg .a 0x00, .reg .b 0x01], [.reg .a 0xFF, .flagS true, .flagZ false, .flagH true, .flagP true, .flagC true, .pc 0x0101]⟩,
   ⟨0x0100, [0x90], [.reg .a 0x10, .reg .b 0x01], [.reg .a 0x0F, .flagS false, .flagZ false, .flagH true, .flagP true, .flagC false, .pc 0x0101]⟩,
   ⟨0x0100, [0x90], [.reg .a 0x80, .reg .b 0x01], [.reg .a 0x7F, .flagS false, .flagZ false, .flagH true, .flagP false, .flagC false, .pc 0x0101]⟩] Row.holds = true := by decide +kernel

/-- 2.4 -/
theorem test_vectors_alu8_2 : List.all [
   ⟨0x0100, [0x90], [.variant .mycpu80, .flagP true, .reg .a 0x80, .reg .b 0x01], [.reg .a 0x7F, .flagS false, .flagZ false, .flagH true, .flagP true, .flagC false, .pc 0x0101]⟩,
   ⟨0x0100, [0xD6, 0x40], [.reg .a 0x30], [.reg .a 0xF0, .flagS true, .flagZ false, .flagH false, .flagP true, .flagC true, .pc 0x0102]⟩,
   ⟨0x0100, [0x96], [.reg .a 0x50, .reg .h 0x20, .reg .l 0x00, .mem 0x2000 0x0F], [.reg .a 0x41, .flagS false, .flagZ false, .flagH true, .flagP true, .flagC false, .pc 0x0101]⟩,
   ⟨0x0100, [0x9D], [.flagC true, .reg .a 0x04, .reg .l 0x02], [.reg .a 0x01, .flagS false, .flagZ false, .flagH false, .flagP false, .flagC false, .pc 0x0101]⟩,
   ⟨0x0100, [0x98], [.flagC true, .reg .a 0x00, .reg .b 0xFF], [.flagS false, .flagZ true, .flagH true, .flagP true, .flagC true, .pc 0x0101]⟩,
   ⟨0x0100, [0x98], [.flagC true, .reg .a 0x10, .reg .b 0x0F], [.reg .a 0x00, .flagS false, .flagZ true, .flagH true, .flagP true, .flagC false, .pc 0x0101]⟩,
   ⟨0x0100, [0xDE, 0x01], [.flagC false, .reg .a 0x00], [.reg .a 0xFF, .flagS true, .flagZ false, .flagH true, .flagP true, .flagC true, .pc 0x0102]⟩,
   ⟨0x0100, [0xDE, 0x00], [.flagC true, .reg .a 0x00], [.reg .a 0xFF, .flagS true, .flagZ false, .flagH true, .flagP true, .flagC true, .pc 0x0102]⟩,
   ⟨0x0100, [0x9E], [.flagC true, .reg .a 0x80, .reg .h 0x20, .reg .l 0x00, .mem 0x2000 0x7F], [.reg .a 0x00, .flagS false, .flagZ true, .flagH true, .flagP true, .flagC false, .pc 0x0101]⟩,
   ⟨0x0100, [0xA1], [.flagC true, .flagH true, .reg .a 0xFC, .reg .c 0x0F], [.reg .a 0x0C, .flagS false, .flagZ false, .flagH false, .flagP true, .flagC false, .pc 0x0101]⟩,
   ⟨0x0100, [0xA7], [.flagC true, .reg .a 0x00], [.flagS false, .flagZ true, .flagH false, .flagP true, .flagC false, .pc 0x0101]⟩,
   ⟨0x0100, [0xA7], [.variant .mycpu80, .flagP true, .reg .a 0x01], [.flagS false, .flagZ false, .flagH false, .flagP false, .flagC false, .pc 0x0101]⟩,
   ⟨0x0100, [0xE6, 0x80], [.flagC true, .flagH true, .reg .a 0xFF], [.reg .a 0x80, .flagS true, .flagZ false, .flagH false, .flagP false, .flagC false, .pc 0x0102]⟩,
   ⟨0x0100, [0xA6], [.reg .a 0xF0, .reg .h 0x20, .reg .l 0x00, .mem 0x2000 0x3C], [.reg .a 0x30, .flagS false, .flagZ false, .flagH false, .flagP true, .flagC false, .pc 0x0101]⟩,
   ⟨0x0100, [0xB1], [.flagC true, .reg .a 0x33, .reg .c 0x0F], [.reg .a 0x3F, .flagS false, .flagZ false, .flagH false, .flagP true, .flagC false, .pc 0x0101]⟩,
   ⟨0x0100, [0xB7], [.flagC true, .flagH true, .reg .a 0x00], [.flagS false, .flagZ true, .flagH false, .flagP true, .flagC false, .pc 0x0101]⟩,
   ⟨0x0100, [0xF6, 0x80], [.reg .a 0x01], [.reg .a 0x81, .flagS true, .flagZ false, .flagH false, .flagP true, .flagC false, .pc 0x0102]⟩,
   ⟨0x0100, [0xB6], [.flagS true, .reg .a 0x00, .reg .h 0x20, .reg .l 0x00, .mem 0x2000 0x00], [.flagS false, .flagZ true, .flagH false, .flagP true, .flagC false, .pc 0x0101]⟩,
   ⟨0x0100, [0xAF], [.flagC true, .flagH true, .flagS true, .reg .a 0x5C], [.reg .a 0x00, .flagS false, .flagZ true, .flagH false, .flagP true, .flagC false, .pc 0x0101]⟩,
   ⟨0x0100, [0xA8], [.reg .a 0xFF, .reg .b 0x0F], [.reg .a 0xF0, .flagS true, .flagZ false, .flagH false, .flagP true, .flagC false, .pc 0x0101]⟩] Row.holds = true := by decide +kernel

/-- 2.4 -/
theorem test_vectors_alu8_3 : List.all [
   ⟨0x0100, [0xEE, 0xFF], [.reg .a 0xAA], [.reg .a 0x55, .flagS false, .flagZ false, .flagH false, .flagP true, .flagC false, .pc 0x0102]⟩,
   ⟨0x0100, [0xAE], [.reg .a 0x81, .reg .h 0x20, .reg .l 0x00, .mem 0x2000 0x01], [.reg .a 0x80, .flagS true, .flagZ false, .flagH false, .flagP false, .flagC false, .pc 0x0101]⟩,
   ⟨0x0100, [0xBB], [.reg .a 0x0A, .reg .e 0x05], [.flagS false, .flagZ false, .flagH false, .flagP true, .flagC false, .pc 0x0101]⟩,
   ⟨0x0100, [0xBB], [.reg .a 0x02, .reg .e 0x05], [.flagS true, .flagZ false, .flagH true, .flagP false, .flagC true, .pc 0x0101]⟩,
   ⟨0x0100, [0xBF], [.flagC true, .flagS true, .reg .a 0x77], [.flagS false, .flagZ true, .flagH false, .flagP true, .flagC false, .pc 0x0101]⟩,
   ⟨0x0100, [0xBB], [.variant .mycpu80, .flagP false, .reg .a 0x0A, .reg .e 0x05], [.flagS false, .flagZ false, .flagH false, .flagP false, .flagC false, .pc 0x0101]⟩,
   ⟨0x0100, [0xFE, 0x40], [.reg .a 0x40], [.flagS false, .flagZ true, .flagH false, .flagP true, .flagC false, .pc 0x0102]⟩,
   ⟨0x0100, [0xFE, 0x80], [.reg .a 0x7F], [.flagS true, .flagZ false, .flagH false, .flagP true, .flagC true, .pc 0x0102]⟩,
   ⟨0x0100, [0xBE], [.reg .a 0x00, .reg .h 0x20, .reg .l 0x00, .mem 0x2000 0x01], [.flagS true, .flagZ false, .flagH true, .flagP true, .flagC true, .pc 0x0101]⟩,
   ⟨0x0100, [0x0C], [.flagC true, .reg .c 0x99], [.reg .c 0x9A, .flagS true, .flagZ false, .flagH false, .flagP true, .flagC true, .pc 0x0101]⟩,
   ⟨0x0100, [0x04], [.flagC false, .reg .b 0xFF], [.reg .b 0x00, .flagS false, .flagZ true, .flagH true, .flagP true, .flagC false, .pc 0x0101]⟩,
   ⟨0x0100, [0x04], [.flagC true, .reg .b 0x7F], [.reg .b 0x80, .flagS true, .flagZ false, .flagH true, .flagP false, .flagC true, .pc 0x0101]⟩,
   ⟨0x0100, [0x3C], [.reg .a 0x0F], [.reg .a 0x10, .flagS false, .flagZ false, .flagH true, .flagP false, .flagC false, .pc 0x0101]⟩,
   ⟨0x0100, [0x04], [.variant .mycpu80, .flagP false, .reg .b 0xFF], [.reg .b 0x00, .flagS false, .flagZ true, .flagH true, .flagP false, .flagC false, .pc 0x0101]⟩,
   ⟨0x0100, [0x34], [.flagC true, .reg .h 0x20, .reg .l 0x00, .mem 0x2000 0xFF], [.flagS false, .flagZ true, .flagH true, .flagP true, .flagC true, .mem 0x2000 0x00, .pc 0x0101]⟩,
   ⟨0x0100, [0x05], [.flagC true, .reg .b 0x01], [.reg .b 0x00, .flagS false, .flagZ true, .flagH false, .flagP true, .flagC true, .pc 0x0101]⟩,
   ⟨0x0100, [0x05], [.flagC false, .reg .b 0x00], [.reg .b 0xFF, .flagS true, .flagZ false, .flagH true, .flagP true, .flagC false, .pc 0x0101]⟩,
   ⟨0x0100, [0x05], [.reg .b 0x80], [.reg .b 0x7F, .flagS false, .flagZ false, .flagH true, .flagP false, .flagC false, .pc 0x0101]⟩,
   ⟨0x0100, [0x05], [.reg .b 0x10], [.reg .b 0x0F, .flagS false, .flagZ false, .flagH true, .flagP true, .flagC false, .pc 0x0101]⟩,
   ⟨0x0100, [0x3D], [.flagC true, .reg .a 0x02], [.reg .a 0x01, .flagS false, .flagZ false, .flagH false, .flagP false, .flagC true, .pc 0x0101]⟩] Row.holds = true := by decide +kernel

/-- 2.4 -/
theorem test_vectors_alu8_4 : List.all [
   ⟨0x0100, [0x35], [.reg .h 0x20, .reg .l 0x00, .mem 0x2000 0x40], [.flagS false, .flagZ false, .flagH true, .flagP true, .flagC false, .mem 0x2000 0x3F, .pc 0x0101]⟩] Row.holds = true := by decide +kernel

/-- 2.5 -/
theorem test_vectors_misc_1 : List.all [
   ⟨0x0100, [0x27], [.reg .a 0x9B], [.reg .a 0x01, .flagS false, .flagZ false, .flagH false, .flagP false, .flagC true, .pc 0x0101]⟩,
   ⟨0x0100, [0x27], [.reg .a 0x7D], [.reg .a 0x83, .flagS true, .flagZ false, .flagH false, .flagP false, .flagC false, .pc 0x0101]⟩,
   ⟨0x0100, [0x27], [.daaH .carry3, .reg .a 0x7D], [.reg .a 0x83, .flagS true, .flagZ false, .flagH true, .flagP false, .flagC false, .pc 0x0101]⟩,
   ⟨0x0100, [0x27], [.reg .a 0x9A], [.reg .a 0x00, .flagS false, .flagZ true, .flagH false, .flagP true, .flagC true, .pc 0x0101]⟩,
   ⟨0x0100, [0x27], [.flagH true, .reg .a 0x10], [.reg .a 0x16, .flagS false, .flagZ false, .flagH true, .flagP false, .flagC false, .pc 0x0101]⟩,
   ⟨0x0100, [0x27], [.flagC true, .reg .a 0x20], [.reg .a 0x80, .flagS true, .flagZ false, .flagH false, .flagP false, .flagC true, .pc 0x0101]⟩,
   ⟨0x0100, [0x27], [.flagH true, .flagC true, .reg .a 0x32], [.reg .a 0x98, .flagS true, .flagZ false, .flagH true, .flagP false, .flagC true, .pc 0x0101]⟩,
   ⟨0x0100, [0x27], [.reg .a 0x00], [.flagS false, .flagZ true, .flagH false, .flagP true, .flagC false, .pc 0x0101]⟩,
   ⟨0x0100, [0x27], [.flagS true, .flagZ true, .reg .a 0x45], [.flagS false, .flagZ false, .flagH false, .flagP false, .flagC false, .pc 0x0101]⟩,
   ⟨0x0100, [0x27], [.reg .a 0xA0], [.reg .a 0x00, .flagS false, .flagZ true, .flagH false, .flagP true, .flagC true, .pc 0x0101]⟩,
   ⟨0x0100, [0x27], [.reg .a 0x0A], [.reg .a 0x10, .flagS false, .flagZ false, .flagH false, .flagP false, .flagC false, .pc 0x0101]⟩,
   ⟨0x0100, [0x27], [.reg .a 0xFF], [.reg .a 0x65, .flagS false, .flagZ false, .flagH false, .flagP true, .flagC true, .pc 0x0101]⟩,
   ⟨0x0100, [0x27], [.flagH true, .flagC true, .reg .a 0x66], [.reg .a 0xCC, .flagS true, .flagZ false, .flagH true, .flagP true, .flagC true, .pc 0x0101]⟩,
   ⟨0x0100, [0x27], [.variant .mycpu80, .flagP true, .reg .a 0x0A], [.reg .a 0x10, .flagS false, .flagZ false, .flagH false, .flagP false, .flagC false, .pc 0x0101]⟩,
   ⟨0x0100, [0x2F], [.flagZ true, .flagC true, .reg .a 0x51], [.reg .a 0xAE, .flagS false, .flagZ true, .flagH false, .flagP false, .flagC true, .pc 0x0101]⟩,
   ⟨0x0100, [0x2F], [.reg .a 0xFF], [.reg .a 0x00, .flagS false, .flagZ false, .flagH false, .flagP false, .flagC false, .pc 0x0101]⟩,
   ⟨0x0100, [0x3F], [.flagC false, .flagZ true], [.flagS false, .flagZ true, .flagH false, .flagP false, .flagC true, .pc 0x0101]⟩,
   ⟨0x0100, [0x3F], [.flagC true, .flagS true, .flagH true, .flagP true], [.flagS true, .flagZ false, .flagH true, .flagP true, .flagC false, .pc 0x0101]⟩,
   ⟨0x0100, [0x37], [.flagC false], [.flagS false, .flagZ false, .flagH false, .flagP false, .flagC true, .pc 0x0101]⟩,
   ⟨0x0100, [0x37], [.flagC true, .flagZ true], [.flagS false, .flagZ true, .flagH false, .flagP false, .flagC true, .pc 0x0101]⟩] Row.holds = true := by decide +kernel

/-- 2.5 -/
theorem test_vectors_misc_2 : List.all [
   ⟨0x0100, [0x00], [.flagZ true, .flagC true, .reg .a 0x12], [.flagS false, .flagZ true, .flagH false, .flagP false, .flagC true, .pc 0x0101]⟩,
   ⟨0x0100, [0x76], [.inte false], [.flagS false, .flagZ false, .flagH false, .flagP false, .flagC false, .pc 0x0101, .inte false, .eiPend false, .halted true]⟩,
   ⟨0x0100, [0x76], [.inte true], [.flagS false, .flagZ false, .flagH false, .flagP false, .flagC false, .pc 0x0101, .inte true, .eiPend false, .halted true]⟩,
   ⟨0x0100, [0xF3], [.inte true], [.flagS false, .flagZ false, .flagH false, .flagP false, .flagC false, .pc 0x0101, .inte false, .eiPend false, .halted false]⟩,
   ⟨0x0100, [0xF3], [.inte false], [.flagS false, .flagZ false, .flagH false, .flagP false, .flagC false, .pc 0x0101]⟩,
   ⟨0x0100, [0xFB], [.inte false], [.flagS false, .flagZ false, .flagH false, .flagP false, .flagC false, .pc 0x0101, .inte false, .eiPend true, .halted false]⟩,
   ⟨0x0100, [0xFB], [.inte true], [.flagS false, .flagZ false, .flagH false, .flagP false, .flagC false, .pc 0x0101, .inte true, .eiPend true, .halted false]⟩] Row.holds = true := by decide +kernel

/-- 2.6 -/
theorem test_vectors_alu16 : List.all [
   ⟨0x0100, [0x09], [.flagZ true, .flagS true, .reg .b 0x33, .reg .c 0x9F, .reg .h 0xA1, .reg .l 0x7B], [.reg .h 0xD5, .reg .l 0x1A, .flagS true, .flagZ true, .flagH false, .flagP false, .flagC false, .pc 0x0101]⟩,
   ⟨0x0100, [0x09], [.reg .b 0x00, .reg .c 0x01, .reg .h 0xFF, .reg .l 0xFF], [.reg .h 0x00, .reg .l 0x00, .flagS false, .flagZ false, .flagH true, .flagP false, .flagC true, .pc 0x0101]⟩,
   ⟨0x0100, [0x19], [.flagC true, .reg .d 0x00, .reg .e 0x01, .reg .h 0x0F, .reg .l 0xFF], [.reg .h 0x10, .reg .l 0x00, .flagS false, .flagZ false, .flagH true, .flagP false, .flagC false, .pc 0x0101]⟩,
   ⟨0x0100, [0x19], [.flagC true, .flagH true, .flagP true, .reg .d 0x00, .reg .e 0x00, .reg .h 0x00, .reg .l 0x00], [.flagS false, .flagZ false, .flagH false, .flagP true, .flagC false, .pc 0x0101]⟩,
   ⟨0x0100, [0x29], [.reg .h 0x80, .reg .l 0x00], [.reg .h 0x00, .flagS false, .flagZ false, .flagH false, .flagP false, .flagC true, .pc 0x0101]⟩,
   ⟨0x0100, [0x29], [.reg .h 0x08, .reg .l 0x00], [.reg .h 0x10, .flagS false, .flagZ false, .flagH true, .flagP false, .flagC false, .pc 0x0101]⟩,
   ⟨0x0100, [0x39], [.reg .h 0x00, .reg .l 0x02, .sp 0xEFFE], [.reg .h 0xF0, .reg .l 0x00, .flagS false, .flagZ false, .flagH true, .flagP false, .flagC false, .pc 0x0101]⟩,
   ⟨0x0100, [0x03], [.flagZ false, .flagC false, .reg .b 0xFF, .reg .c 0xFF], [.reg .b 0x00, .reg .c 0x00, .flagS false, .flagZ false, .flagH false, .flagP false, .flagC false, .pc 0x0101]⟩,
   ⟨0x0100, [0x13], [.flagC true, .reg .d 0x00, .reg .e 0xFF], [.reg .d 0x01, .reg .e 0x00, .flagS false, .flagZ false, .flagH false, .flagP false, .flagC true, .pc 0x0101]⟩,
   ⟨0x0100, [0x23], [.reg .h 0x12, .reg .l 0xFF], [.reg .h 0x13, .reg .l 0x00, .flagS false, .flagZ false, .flagH false, .flagP false, .flagC false, .pc 0x0101]⟩,
   ⟨0x0100, [0x33], [.sp 0xFFFF], [.flagS false, .flagZ false, .flagH false, .flagP false, .flagC false, .sp 0x0000, .pc 0x0101]⟩,
   ⟨0x0100, [0x0B], [.flagZ false, .reg .b 0x00, .reg .c 0x01], [.reg .c 0x00, .flagS false, .flagZ false, .flagH false, .flagP false, .flagC false, .pc 0x0101]⟩,
   ⟨0x0100, [0x1B], [.reg .d 0x00, .reg .e 0x00], [.reg .d 0xFF, .reg .e 0xFF, .flagS false, .flagZ false, .flagH false, .flagP false, .flagC false, .pc 0x0101]⟩,
   ⟨0x0100, [0x2B], [.reg .h 0x13, .reg .l 0x00], [.reg .h 0x12, .reg .l 0xFF, .flagS false, .flagZ false, .flagH false, .flagP false, .flagC false, .pc 0x0101]⟩,
   ⟨0x0100, [0x3B], [.sp 0x0000], [.flagS false, .flagZ false, .flagH false, .flagP false, .flagC false, .sp 0xFFFF, .pc 0x0101]⟩] Row.holds = true := by decide +kernel

/-- 2.7 -/
theorem test_vectors_rotate : List.all [
   ⟨0x0100, [0x07], [.flagZ true, .flagS false, .reg .a 0xF2], [.reg .a 0xE5, .flagS false, .flagZ true, .flagH false, .flagP false, .flagC true, .pc 0x0101]⟩,
   ⟨0x0100, [0x07], [.flagC true, .reg .a 0x01], [.reg .a 0x02, .flagS false, .flagZ false, .flagH false, .flagP false, .flagC false, .pc 0x0101]⟩,
   ⟨0x0100, [0x07], [.flagC true, .reg .a 0x00], [.flagS false, .flagZ false, .flagH false, .flagP false, .flagC false, .pc 0x0101]⟩,
   ⟨0x0100, [0x17], [.flagC false, .reg .a 0xB5], [.reg .a 0x6A, .flagS false, .flagZ false, .flagH false, .flagP false, .flagC true, .pc 0x0101]⟩,
   ⟨0x0100, [0x17], [.flagC true, .reg .a 0x00], [.reg .a 0x01, .flagS false, .flagZ false, .flagH false, .flagP false, .flagC false, .pc 0x0101]⟩,
   ⟨0x0100, [0x17], [.flagC true, .reg .a 0x80], [.reg .a 0x01, .flagS false, .flagZ false, .flagH false, .flagP false, .flagC true, .pc 0x0101]⟩,
   ⟨0x0100, [0x0F], [.reg .a 0xF2], [.reg .a 0x79, .flagS false, .flagZ false, .flagH false, .flagP false, .flagC false, .pc 0x0101]⟩,
   ⟨0x0100, [0x0F], [.reg .a 0x01], [.reg .a 0x80, .flagS false, .flagZ false, .flagH false, .flagP false, .flagC true, .pc 0x0101]⟩,
   ⟨0x0100, [0x0F], [.flagC false, .reg .a 0xFF], [.flagS false, .flagZ false, .flagH false, .flagP false, .flagC true, .pc 0x0101]⟩,
   ⟨0x0100, [0x1F], [.flagC true, .reg .a 0x6A], [.reg .a 0xB5, .flagS false, .flagZ false, .flagH false, .flagP false, .flagC false, .pc 0x0101]⟩,
   ⟨0x0100, [0x1F], [.flagC false, .reg .a 0x01], [.reg .a 0x00, .flagS false, .flagZ false, .flagH false, .flagP false, .flagC true, .pc 0x0101]⟩,
   ⟨0x0100, [0x1F], [.flagC true, .flagZ true, .reg .a 0x00], [.reg .a 0x80, .flagS false, .flagZ true, .flagH false, .flagP false, .flagC false, .pc 0x0101]⟩] Row.holds = true := by decide +kernel

/-- 2.8 -/
theorem test_vectors_jump_1 : List.all [
   ⟨0x0100, [0xC3, 0x00, 0x20], [.flagZ true], [.pc 0x2000]⟩,
   ⟨0x0100, [0xC3, 0x00, 0x01], [], [.pc 0x0100]⟩,
   ⟨0x0100, [0xC2, 0x00, 0x20], [.flagZ false], [.pc 0x2000]⟩,
   ⟨0x0100, [0xC2, 0x00, 0x20], [.flagZ true], [.pc 0x0103]⟩,
   ⟨0x0100, [0xCA, 0x00, 0x20], [.flagZ true], [.pc 0x2000]⟩,
   ⟨0x0100, [0xCA, 0x00, 0x20], [.flagZ false], [.pc 0x0103]⟩,
   ⟨0x0100, [0xD2, 0x00, 0x20], [.flagC false], [.pc 0x2000]⟩,
   ⟨0x0100, [0xD2, 0x00, 0x20], [.flagC true], [.pc 0x0103]⟩,
   ⟨0x0100, [0xDA, 0x00, 0x20], [.flagC true], [.pc 0x2000]⟩,
   ⟨0x0100, [0xDA, 0x00, 0x20], [.flagC false], [.pc 0x0103]⟩,
   ⟨0x0100, [0xE2, 0x00, 0x20], [.flagP false], [.pc 0x2000]⟩,
   ⟨0x0100, [0xE2, 0x00, 0x20], [.flagP true], [.pc 0x0103]⟩,
   ⟨0x0100, [0xEA, 0x00, 0x20], [.flagP true], [.pc 0x2000]⟩,
   ⟨0x0100, [0xEA, 0x00, 0x20], [.flagP false], [.pc 0x0103]⟩,
   ⟨0x0100, [0xF2, 0x00, 0x20], [.flagS false], [.pc 0x2000]⟩,
   ⟨0x0100, [0xF2, 0x00, 0x20], [.flagS true], [.pc 0x0103]⟩,
   ⟨0x0100, [0xFA, 0x00, 0x20], [.flagS true], [.pc 0x2000]⟩,
   ⟨0x0100, [0xFA, 0x00, 0x20], [.flagS false], [.pc 0x0103]⟩,
   ⟨0xFFFE, [0xCA, 0x34, 0x12], [.flagZ false], [.pc 0x0001]⟩,
   ⟨0x0100, [0xE9], [.reg .h 0x43, .reg .l 0x21], [.pc 0x4321]⟩] Row.holds = true := by decide +kernel

/-- 2.8 -/
theorem test_vectors_jump_2 : List.all [
   ⟨0x0100, [0xE9], [.reg .h 0x01, .reg .l 0x00], [.pc 0x0100]⟩] Row.holds = true := by decide +kernel

/-- 2.9 -/
theorem test_vectors_call_return_1 : List.all [
   ⟨0x0100, [0xCD, 0x00, 0x20], [.sp 0xF000], [.mem 0xEFFF 0x01, .mem 0xEFFE 0x03, .sp 0xEFFE, .pc 0x2000]⟩,
   ⟨0x1234, [0xCD, 0x00, 0x20], [.sp 0x0001], [.mem 0x0000 0x12, .mem 0xFFFF 0x37, .sp 0xFFFF, .pc 0x2000]⟩,
   ⟨0x0100, [0xC4, 0x00, 0x20], [.flagZ false, .sp 0xF000], [.mem 0xEFFF 0x01, .mem 0xEFFE 0x03, .sp 0xEFFE, .pc 0x2000]⟩,
   ⟨0x0100, [0xC4, 0x00, 0x20], [.flagZ true, .sp 0xF000], [.pc 0x0103]⟩,
   ⟨0x0100, [0xCC, 0x00, 0x20], [.flagZ true, .sp 0xF000], [.mem 0xEFFF 0x01, .mem 0xEFFE 0x03, .sp 0xEFFE, .pc 0x2000]⟩,
   ⟨0x0100, [0xCC, 0x00, 0x20], [.flagZ false, .sp 0xF000], [.pc 0x0103]⟩,
   ⟨0x0100, [0xD4, 0x00, 0x20], [.flagC false, .sp 0xF000], [.mem 0xEFFF 0x01, .mem 0xEFFE 0x03, .sp 0xEFFE, .pc 0x2000]⟩,
   ⟨0x0100, [0xD4, 0x00, 0x20], [.flagC true, .sp 0xF000], [.pc 0x0103]⟩,
   ⟨0x0100, [0xDC, 0x00, 0x20], [.flagC true, .sp 0xF000], [.mem 0xEFFF 0x01, .mem 0xEFFE 0x03, .sp 0xEFFE, .pc 0x2000]⟩,
   ⟨0x0100, [0xDC, 0x00, 0x20], [.flagC false, .sp 0xF000], [.pc 0x0103]⟩,
   ⟨0x0100, [0xE4, 0x00, 0x20], [.flagP false, .sp 0xF000], [.mem 0xEFFF 0x01, .mem 0xEFFE 0x03, .sp 0xEFFE, .pc 0x2000]⟩,
   ⟨0x0100, [0xE4, 0x00, 0x20], [.flagP true, .sp 0xF000], [.pc 0x0103]⟩,
   ⟨0x0100, [0xEC, 0x00, 0x20], [.flagP true, .sp 0xF000], [.mem 0xEFFF 0x01, .mem 0xEFFE 0x03, .sp 0xEFFE, .pc 0x2000]⟩,
   ⟨0x0100, [0xEC, 0x00, 0x20], [.flagP false, .sp 0xF000], [.pc 0x0103]⟩,
   ⟨0x0100, [0xF4, 0x00, 0x20], [.flagS false, .sp 0xF000], [.mem 0xEFFF 0x01, .mem 0xEFFE 0x03, .sp 0xEFFE, .pc 0x2000]⟩,
   ⟨0x0100, [0xF4, 0x00, 0x20], [.flagS true, .sp 0xF000], [.pc 0x0103]⟩,
   ⟨0x0100, [0xFC, 0x00, 0x20], [.flagS true, .sp 0xF000], [.mem 0xEFFF 0x01, .mem 0xEFFE 0x03, .sp 0xEFFE, .pc 0x2000]⟩,
   ⟨0x0100, [0xFC, 0x00, 0x20], [.flagS false, .sp 0xF000], [.pc 0x0103]⟩,
   ⟨0x0100, [0xC9], [.sp 0xEFFE, .mem 0xEFFE 0x03, .mem 0xEFFF 0x01], [.sp 0xF000, .pc 0x0103]⟩,
   ⟨0x0100, [0xC9], [.sp 0xFFFF, .mem 0xFFFF 0x78, .mem 0x0000 0x56], [.sp 0x0001, .pc 0x5678]⟩] Row.holds = true := by decide +kernel

/-- 2.9 -/
theorem test_vectors_call_return_2 : List.all [
   ⟨0x0100, [0xC0], [.flagZ false, .sp 0xEFFE, .mem 0xEFFE 0x34, .mem 0xEFFF 0x12], [.sp 0xF000, .pc 0x1234]⟩,
   ⟨0x0100, [0xC0], [.flagZ true, .sp 0xEFFE, .mem 0xEFFE 0x34, .mem 0xEFFF 0x12], [.pc 0x0101]⟩,
   ⟨0x0100, [0xC8], [.flagZ true, .sp 0xEFFE, .mem 0xEFFE 0x34, .mem 0xEFFF 0x12], [.sp 0xF000, .pc 0x1234]⟩,
   ⟨0x0100, [0xC8], [.flagZ false, .sp 0xEFFE, .mem 0xEFFE 0x34, .mem 0xEFFF 0x12], [.pc 0x0101]⟩,
   ⟨0x0100, [0xD0], [.flagC false, .sp 0xEFFE, .mem 0xEFFE 0x34, .mem 0xEFFF 0x12], [.sp 0xF000, .pc 0x1234]⟩,
   ⟨0x0100, [0xD0], [.flagC true, .sp 0xEFFE, .mem 0xEFFE 0x34, .mem 0xEFFF 0x12], [.pc 0x0101]⟩,
   ⟨0x0100, [0xD8], [.flagC true, .sp 0xEFFE, .mem 0xEFFE 0x34, .mem 0xEFFF 0x12], [.sp 0xF000, .pc 0x1234]⟩,
   ⟨0x0100, [0xD8], [.flagC false, .sp 0xEFFE, .mem 0xEFFE 0x34, .mem 0xEFFF 0x12], [.pc 0x0101]⟩,
   ⟨0x0100, [0xE0], [.flagP false, .sp 0xEFFE, .mem 0xEFFE 0x34, .mem 0xEFFF 0x12], [.sp 0xF000, .pc 0x1234]⟩,
   ⟨0x0100, [0xE0], [.flagP true, .sp 0xEFFE, .mem 0xEFFE 0x34, .mem 0xEFFF 0x12], [.pc 0x0101]⟩,
   ⟨0x0100, [0xE8], [.flagP true, .sp 0xEFFE, .mem 0xEFFE 0x34, .mem 0xEFFF 0x12], [.sp 0xF000, .pc 0x1234]⟩,
   ⟨0x0100, [0xE8], [.flagP false, .sp 0xEFFE, .mem 0xEFFE 0x34, .mem 0xEFFF 0x12], [.pc 0x0101]⟩,
   ⟨0x0100, [0xF0], [.flagS false, .sp 0xEFFE, .mem 0xEFFE 0x34, .mem 0xEFFF 0x12], [.sp 0xF000, .pc 0x1234]⟩,
   ⟨0x0100, [0xF0], [.flagS true, .sp 0xEFFE, .mem 0xEFFE 0x34, .mem 0xEFFF 0x12], [.pc 0x0101]⟩,
   ⟨0x0100, [0xF8], [.flagS true, .sp 0xEFFE, .mem 0xEFFE 0x34, .mem 0xEFFF 0x12], [.sp 0xF000, .pc 0x1234]⟩,
   ⟨0x0100, [0xF8], [.flagS false, .sp 0xEFFE, .mem 0xEFFE 0x34, .mem 0xEFFF 0x12], [.pc 0x0101]⟩,
   ⟨0x0100, [0xC7], [.sp 0xF000], [.mem 0xEFFF 0x01, .mem 0xEFFE 0x01, .sp 0xEFFE, .pc 0x0000]⟩,
   ⟨0x0100, [0xCF], [.sp 0xF000], [.mem 0xEFFF 0x01, .mem 0xEFFE 0x01, .sp 0xEFFE, .pc 0x0008]⟩,
   ⟨0x0100, [0xD7], [.sp 0xF000], [.mem 0xEFFF 0x01, .mem 0xEFFE 0x01, .sp 0xEFFE, .pc 0x0010]⟩,
   ⟨0x0100, [0xDF], [.sp 0xF000], [.mem 0xEFFF 0x01, .mem 0xEFFE 0x01, .sp 0xEFFE, .pc 0x0018]⟩] Row.holds = true := by decide +kernel

/-- 2.9 -/
theorem test_vectors_call_return_3 : List.all [
   ⟨0x0100, [0xE7], [.sp 0xF000], [.mem 0xEFFF 0x01, .mem 0xEFFE 0x01, .sp 0xEFFE, .pc 0x0020]⟩,
   ⟨0x0100, [0xEF], [.sp 0xF000], [.mem 0xEFFF 0x01, .mem 0xEFFE 0x01, .sp 0xEFFE, .pc 0x0028]⟩,
   ⟨0x0100, [0xF7], [.sp 0xF000], [.mem 0xEFFF 0x01, .mem 0xEFFE 0x01, .sp 0xEFFE, .pc 0x0030]⟩,
   ⟨0x0100, [0xFF], [.sp 0xF000], [.mem 0xEFFF 0x01, .mem 0xEFFE 0x01, .sp 0xEFFE, .pc 0x0038]⟩,
   ⟨0xFFFF, [0xC7], [.sp 0x0000], [.mem 0xFFFF 0x00, .mem 0xFFFE 0x00, .sp 0xFFFE, .pc 0x0000]⟩] Row.holds = true := by decide +kernel

/-- 2.10 -/
theorem test_vectors_in_out : List.all [
   ⟨0x0100, [0xDB, 0x01], [.answer 0x5A, .flagZ true], [.noAnswer, .reg .a 0x5A, .pc 0x0102]⟩,
   ⟨0x0100, [0xDB, 0xFF], [.answer 0x00, .flagS true, .reg .a 0x77], [.noAnswer, .reg .a 0x00, .pc 0x0102]⟩,
   ⟨0x0100, [0xD3, 0x02], [.flagC true, .reg .a 0x41], [.pc 0x0102, .out 0x02 0x41]⟩,
   ⟨0x0100, [0xD3, 0x00], [.reg .a 0x00], [.pc 0x0102, .out 0x00 0x00]⟩] Row.holds = true := by decide +kernel

/-- 2.2, PUSH PSW: the five flag bits of the stored byte, whatever the unused bits are. -/
theorem test_push_psw_flag_bits :
    ∀ u : BitVec 3,
      flagByte { s := true, z := false, h := true, p := true, c := false } u &&& 0xD5#8 = 0x94#8 ∧
      flagByte { s := false, z := true, h := false, p := false, c := true } u &&& 0xD5#8 = 0x41#8 := by decide

/-- 2.2, PUSH PSW at SP=F000: A to EFFF, the flag byte to EFFE. -/
theorem test_push_psw_places :
    execPushPSW ([Item.reg .a 0x3C, .sp 0xF000].foldl Item.apply State.reset) =
      .next ([Item.reg .a 0x3C, .sp 0xEFFE, .mem 0xEFFF 0x3C, .mem 0xEFFE (flagByte State.reset.flags (Config.fUnused 0))].foldl
        Item.apply State.reset) := rfl

/-! ### Boundaries of part 3 -/

/-- A machine at 0102 with SP=F000, INTE as given, RST n asserted at the coming boundary. -/
def interruptedAt0102 (inte eiPend halted : Bool) (n : Fin 8) : State :=
  { State.reset with
    pc := 0x0102, sp := 0xF000, inte := inte, eiPend := eiPend, halted := halted
    schedule := [{ reset := false, int := some (.rst n) }] }

/-- Q1, the last boundary: accepted, [EFFF]=01, [EFFE]=02, SP=EFFE, PC=0010, INTE=0. -/
theorem test_interrupt_accepted :
    step (interruptedAt0102 true false false 2) =
      .next { State.reset with
        pc := 0x0010, sp := 0xEFFE, mem := [(0xEFFE, 0x02), (0xEFFF, 0x01)], tick := 1 } := rfl

/-- Q6: an accepted interrupt ends the halt. -/
theorem test_interrupt_ends_halt :
    step (interruptedAt0102 true false true 1) =
      .next { State.reset with
        pc := 0x0008, sp := 0xEFFE, mem := [(0xEFFE, 0x02), (0xEFFF, 0x01)], tick := 1 } := rfl

/-- Whether one step from `s` gives `t`. -/
def stepGives (s t : State) : Bool :=
  match step s with
  | .next u => decide (u = t)
  | .fault _ => false
  | .refused _ => false

/-- Q3: with an EI pending the NOP at 0102 runs first, although INTE is 1. -/
theorem test_interrupt_held_off_after_ei :
    stepGives (interruptedAt0102 true true false 1)
      { State.reset with pc := 0x0103, sp := 0xF000, inte := true, tick := 1 } = true := by decide +kernel

/-- Q7: with INTE=0 the halted CPU stays halted. -/
theorem test_halted_ignores_int :
    step (interruptedAt0102 false false true 1) =
      .next { State.reset with pc := 0x0102, sp := 0xF000, halted := true } := rfl

/-- Q2: EI then DI leaves INTE=0. -/
theorem test_di_cancels_pending_ei :
    stepGives { State.reset with eiPend := true, mem := [(0, 0xF3)] }
      { State.reset with pc := 0x0001, mem := [(0, 0xF3)], tick := 1 } = true := by decide +kernel

/-- Q9: reset wins over an acceptable interrupt; nothing is pushed. -/
theorem test_reset_has_priority :
    (match step { State.reset with
        pc := 0x1234, sp := 0xF000, inte := true, schedule := [{ reset := true, int := some (.rst 1) }] } with
      | .next t => decide (t.pc = 0x0000 ∧ t.inte = false ∧ t.mem = [] ∧ t.schedule = [])
      | _ => false) = true := by decide +kernel

/-- Q10: the model fault. -/
theorem test_illegal_opcode : step { State.reset with mem := [(0, 0x08)] } = .fault (.illegalOpcode 0x08) := by
  rfl

/-- Q11: a requester that supplies another instruction. -/
theorem test_other_supply_refused :
    step { State.reset with
        inte := true, schedule := [{ reset := false, int := some (.other [0xCD, 0x00, 0x20]) }] } =
      .refused (.interruptNotRst [0xCD, 0x00, 0x20]) := rfl

/-- R51: a store to ROM keeps nothing. -/
theorem test_rom_store :
    execSta 0x0100 { State.reset with
        regs := { State.reset.regs with a := 0x55 },
        board := { Board.default with memMap := [{ lo := 0x0000, hi := 0x07FF, kind := .rom }] } } =
      .next { State.reset with
        regs := { State.reset.regs with a := 0x55 },
        board := { Board.default with memMap := [{ lo := 0x0000, hi := 0x07FF, kind := .rom }] } } := rfl

/-- The load from outside, and the first step after reset: MVI A,3A. -/
theorem test_first_instruction_after_reset :
    stepGives (State.reset.withFetchWord 16 0x3A3E)
      { State.reset with
        regs := { State.reset.regs with a := 0x3A }, pc := 0x0002, mem := [(0, 0x3E), (1, 0x3A)], tick := 1 } = true := by
  decide +kernel

/-- R258, conditional call: the clock counts of both machines, taken and not taken. -/
theorem test_clocks_cm :
    clocks (.cm 0x2000) { State.reset with flags := { State.reset.flags with s := true } } = 17 ∧
      clocks (.cm 0x2000) State.reset = 10 ∧
      clocks .inxB { State.reset with board := { Board.default with variant := .mycpu80 } } = 8 := by decide

/-- R69: destination first, operands most significant digit first. -/
theorem test_assembly :
    assembly (.lda 0x1234) = "LDA 1234" ∧ assembly .movBC = "MOV B,C" ∧ assembly (.cpi 0x3A) = "CPI 3A" ∧
      assembly .rst3 = "RST 3" ∧ assembly .rm = "RM" := by decide
/-! ### Witnesses: a state and operands that meet the hypotheses of each obligation, at the ends of their ranges -/

/-- ROM at 0000 to 07FF, nothing at E000 to E0FF, a device at F800 to F8FF, RAM elsewhere. -/
def mixedBoard : Board :=
  { Board.default with
    memMap :=
      [{ lo := 0x0000, hi := 0x07FF, kind := .rom }, { lo := 0xE000, hi := 0xE0FF, kind := .absent },
        { lo := 0xF800, hi := 0xF8FF, kind := .device }] }

/-- On that board, with one byte in ROM and one in RAM at the top of memory. -/
def mixed : State := { State.reset with board := mixedBoard, mem := [(0x0010, 0xC9), (0xFFFF, 0x76)] }

/-- All memory RAM, the bytes `m` in it, PC at `pc`. -/
def ramAt (pc : Word) (m : Memory) : State := { State.reset with pc := pc, mem := m }

/-- Reset and INT asserted together, INTE = 1. -/
def resetAsserted : State :=
  { mixed with inte := true, halted := true, schedule := [{ reset := true, int := some (.rst 1) }] }

/-- Whether a step answers a next state that passes a check. -/
def stepHas (s : State) (check : State → Bool) : Bool :=
  match step s with
  | .next t => check t
  | _ => false

theorem test_witness_DecodeAfterEncode : (Instr.lda 0xFFFF).WellFormed ∧ Instr.nop.WellFormed := ⟨trivial, trivial⟩

theorem test_witness_EncodeAfterDecode :
    decode [0x3A, 0x34, 0x12, 0x76] = .ok (.lda 0x1234, [0x76]) ∧ decode [0x00] = .ok (.nop, []) := ⟨rfl, rfl⟩

theorem test_witness_OpcodeAloneFixesLength :
    decode (0xCD :: [0x34, 0x12]) = .ok (.call 0x1234, []) ∧ decode (0xDB :: [0xFF]) = .ok (.inPort 0xFF, []) ∧
      decode (0xFF :: [0xFF]) = .ok (.rst7, [0xFF]) := ⟨rfl, rfl, rfl⟩

/-- An instruction whose three bytes lie at FFFF, 0000 and 0001. -/
theorem test_witness_StepRunsDecodedInstruction :
    let s := ramAt 0xFFFF [(0x0000, 0x34), (0x0001, 0x12), (0xFFFF, 0x3A)]
    s.readyToFetch ∧ decode s.fetchBytes = .ok (.lda 0x1234, []) ∧ (Instr.lda 0x1234).WellFormed :=
  ⟨⟨rfl, rfl, rfl⟩, rfl, trivial⟩

theorem test_witness_StepRunsInstructionAtPc :
    let s := ramAt 0xFFFF [(0x0000, 0x34), (0x0001, 0x12), (0xFFFF, 0x3A)]
    s.readyToFetch ∧ ∀ k (h : k < (encode (.lda 0x1234)).length),
      s.load .fetch (s.pc + BitVec.ofNat 16 k) = (encode (.lda 0x1234))[k] :=
  ⟨⟨rfl, rfl, rfl⟩, by decide⟩

theorem test_witness_OnlyUnassignedOpcodesFault :
    (let s := ramAt 0x0000 [(0x0000, 0x08)];
      s.readyToFetch ∧ s.load .fetch s.pc ∈ unassignedOpcodes ∧ step s = .fault (.illegalOpcode 0x08)) ∧
    (let s := ramAt 0xFFFF [(0xFFFF, 0xFD)];
      s.readyToFetch ∧ s.load .fetch s.pc ∈ unassignedOpcodes ∧ step s = .fault (.illegalOpcode 0xFD)) ∧
    step { State.reset with inte := true, schedule := [{ reset := false, int := some (.other []) }] } =
      .refused (.interruptNotRst []) :=
  ⟨⟨⟨rfl, rfl, rfl⟩, by decide, rfl⟩, ⟨⟨rfl, rfl, rfl⟩, by decide, rfl⟩, rfl⟩

theorem test_witness_ResetSignal : resetAsserted.pins.reset = true := rfl

/-- RST 0 and RST 7, with the stack at the bottom of memory, so that it wraps. -/
theorem test_witness_InterruptAcceptance :
    (let s : State := { mixed with inte := true, sp := 0x0001, schedule := [{ reset := false, int := some (.rst 0) }] };
      s.mem.wf ∧ s.inte = true ∧ s.eiPend = false ∧ s.pins.reset = false ∧ s.pins.int = some (.rst 0)) ∧
    (let s : State := { mixed with inte := true, sp := 0x0000, halted := true,
                                   schedule := [{ reset := false, int := some (.rst 7) }] };
      s.mem.wf ∧ s.inte = true ∧ s.eiPend = false ∧ s.pins.reset = false ∧ s.pins.int = some (.rst 7)) := by decide

/-- For both halves of the first clause, and for the second. -/
theorem test_witness_IntIsIgnoredUnlessAcceptable :
    mixed.inte = false ∧ ({ mixed with inte := true, eiPend := true } : State).eiPend = true ∧
    (let s : State := { mixed with inte := true, schedule := [{ reset := false, int := some (.other [0x00]) }] };
      s.inte = true ∧ s.eiPend = false ∧ s.pins.reset = false ∧ s.pins.int = some (.other [0x00])) := by decide

/-- Halted with INTE 0 and with INTE 1; an interrupt that ends the halt; a reset that does. -/
theorem test_witness_HaltState :
    (let s : State := { mixed with halted := true, schedule := [{ reset := false, int := some (.rst 2) }] };
      s.halted = true ∧ s.pins.reset = false ∧ s.acceptable = none) ∧
    (let s : State := { mixed with halted := true, inte := true };
      s.halted = true ∧ s.pins.reset = false ∧ s.acceptable = none) ∧
    (let s : State := { mixed with halted := true, inte := true, schedule := [{ reset := false, int := some (.rst 7) }] };
      s.halted = true ∧ s.acceptable = some (.rst 7)) ∧
    resetAsserted.halted = true ∧ resetAsserted.pins.reset = true := by decide

theorem test_witness_EndedRunNeverChanges :
    let s : State := { mixed with halted := true, schedule := [{ reset := false, int := some (.rst 1) }, Pins.idle] }
    s.ended = true ∧ ∀ p ∈ s.schedule, p.reset = false := by decide

/-- EI; NOP and again EI after EI; DI after EI. -/
theorem test_witness_EiTakesEffectOneInstructionLate :
    (let s := ramAt 0x0000 [(0x0000, 0xFB)];
      s.readyToFetch ∧ decode s.fetchBytes = .ok (.ei, [])) ∧
    (let s : State := { ramAt 0x0100 [] with eiPend := true };
      s.readyToFetch ∧ s.eiPend = true ∧ decode s.fetchBytes = .ok (.nop, []) ∧ Instr.nop ≠ .di) ∧
    (let s : State := { ramAt 0x0000 [(0x0000, 0xFB)] with eiPend := true };
      s.readyToFetch ∧ s.eiPend = true ∧ decode s.fetchBytes = .ok (.ei, []) ∧ Instr.ei ≠ .di) ∧
    (let s : State := { ramAt 0x0000 [(0x0000, 0xF3)] with eiPend := true, inte := true };
      s.readyToFetch ∧ decode s.fetchBytes = .ok (.di, [])) :=
  ⟨⟨⟨rfl, rfl, rfl⟩, rfl⟩, ⟨⟨rfl, rfl, rfl⟩, rfl, rfl, by decide⟩, ⟨⟨rfl, rfl, rfl⟩, rfl, rfl, by decide⟩,
    ⟨rfl, rfl, rfl⟩, rfl⟩

/-- A step that runs HLT after EI: the case in which the second half of the invariant has something to say. -/
theorem test_witness_StepKeepsInvariant :
    let s : State := { ramAt 0xFFFF [(0xFFFF, 0x76)] with eiPend := true }
    s.Inv ∧ step s = .next { s with pc := 0x0000, inte := true, eiPend := false, halted := true, tick := 1 } :=
  ⟨⟨by decide, by decide⟩, rfl⟩

/-- A step that stores to the device, so that the outputs grow. -/
theorem test_witness_StepKeepsBoardAndOutputs :
    stepHas { mixed with pc := 0x1000, mem := [(0x1000, 0x32), (0x1002, 0xF8)] }
      (fun t => decide (t.output = [.memWrite 0xF800 0x00])) = true := by decide +kernel

/-- A step that stores to ROM, at the first and at the last address of the region. -/
theorem test_witness_RomKeepsItsBytes :
    (let s : State := { mixed with pc := 0x1000, mem := [(0x1000, 0x77)], regs := { mixed.regs with a := 0xFF } };
      s.mem.wf ∧ s.memKind 0x0000 = .rom ∧ stepHas s (fun t => decide (t.pc = 0x1001)) = true) ∧
    (let s : State := { mixed with pc := 0x1000, mem := [(0x1000, 0x32), (0x1001, 0xFF), (0x1002, 0x07)],
                                   regs := { mixed.regs with a := 0xFF } };
      s.mem.wf ∧ s.memKind 0x07FF = .rom ∧ stepHas s (fun t => decide (t.pc = 0x1003)) = true) := by decide +kernel

/-- INTE from 0 to 1 by a NOP after EI; from 1 to 0 by a reset, an interrupt and DI. -/
theorem test_witness_InteChangesOnlyAsStated :
    stepHas { State.reset with eiPend := true } (fun t => t.inte) = true ∧
    (resetAsserted.inte = true ∧ stepHas resetAsserted (fun t => !t.inte) = true) ∧
    stepHas { State.reset with inte := true, schedule := [{ reset := false, int := some (.rst 3) }] }
      (fun t => !t.inte) = true ∧
    stepHas { ramAt 0x0000 [(0x0000, 0xF3)] with inte := true } (fun t => !t.inte) = true := by decide +kernel

/-- HALTED from 0 to 1 by HLT; from 1 to 0 by a reset and by an interrupt. -/
theorem test_witness_HaltedChangesOnlyAsStated :
    stepHas (ramAt 0x0000 [(0x0000, 0x76)]) (fun t => t.halted) = true ∧
    (resetAsserted.halted = true ∧ stepHas resetAsserted (fun t => !t.halted) = true) ∧
    stepHas { State.reset with halted := true, inte := true, schedule := [{ reset := false, int := some (.rst 3) }] }
      (fun t => !t.halted) = true := by decide +kernel

/-- Instructions outside each row of the table, for P and for H by the parameter they depend on. -/
theorem test_witness_FlagsAreWrittenOnlyAsTabled :
    writesC (Instr.inrB).form = false ∧ writesZS (Instr.dadSP).form = false ∧
      writesP .mycpu80 (Instr.cpi 0xFF).form = false ∧ writesP .mycpu80 Instr.dcrM.form = false ∧
      writesP .i8080 Instr.cma.form = false ∧ writesP .mycpu80 Instr.daa.form = true ∧
      writesP .i8080 Instr.inrB.form = true ∧
      writesH .unchanged (Instr.daa).form = false ∧ writesH .carry3 (Instr.stc).form = false := by decide

theorem test_witness_SpIsWrittenOnlyAsListed :
    writesSp (Instr.lxiH 0x1234).form = false ∧ writesSp (Instr.jm 0x0000).form = false ∧
      writesSp Instr.xthl.form = false := by decide

theorem test_witness_CanonicalMemoryIsItsReads :
    Memory.wf [(0x0000, 0x01), (0xFFFF, 0xFF)] ∧
      Memory.wf (Memory.write (Memory.write [] 0xFFFF 0xFF) 0x0000 0x01) ∧
      Memory.write (Memory.write [] 0xFFFF 0xFF) 0x0000 0x01 = [(0x0000, 0x01), (0xFFFF, 0xFF)] := by decide

/-- Canonical memory on a board with an address of each kind, at the ends of the regions: what the clauses of
`StoresByte` and `StoresTwo` ask. The witness of every statement that asks for canonical memory alone. -/
theorem test_witness_StoreOneByte :
    mixed.mem.wf ∧ mixed.memKind 0x0000 = .rom ∧ mixed.memKind 0x07FF = .rom ∧ mixed.memKind 0x0800 = .ram ∧
      mixed.memKind 0xDFFF = .ram ∧ mixed.memKind 0xE000 = .absent ∧ mixed.memKind 0xE0FF = .absent ∧
      mixed.memKind 0xF800 = .device ∧ mixed.memKind 0xF8FF = .device ∧ mixed.memKind 0xF900 = .ram ∧
      mixed.memKind 0xFFFF = .ram ∧ mixed.holdsByte 0xFFFF = true ∧ mixed.holdsByte 0xE000 = false := by decide

/-- Two bytes of which one goes to RAM and one to ROM: the second address wraps to 0000. -/
theorem test_witness_LoadAndStoreHlDirect :
    mixed.mem.wf ∧ mixed.memKind 0xFFFF = .ram ∧ mixed.memKind (0xFFFF + 1) = .rom := by decide

theorem test_witness_PushStoresPair :
    let s : State := { mixed with sp := 0x0001 }
    s.mem.wf ∧ s.memKind (s.sp - 1) = .rom ∧ s.memKind (s.sp - 2) = .ram := by decide

/-- RAM at both stack addresses, which are FFFF and FFFE. -/
theorem test_witness_PushThenPopCopies :
    let s : State := { mixed with sp := 0x0000 }
    s.mem.wf ∧ s.memKind (s.sp - 1) = .ram ∧ s.memKind (s.sp - 2) = .ram := by decide

theorem test_witness_ExchangeTopOfStack :
    let s : State := { mixed with sp := 0xFFFF }
    s.mem.wf ∧ s.memKind s.sp = .ram ∧ s.memKind (s.sp + 1) = .rom := by decide

/-- M in RAM, ROM, at a device, and at an absent address. -/
theorem test_witness_IncrementAndDecrementMemory :
    let m := fun (hi lo : Byte) => State.memKind mixed (wordOf hi lo)
    mixed.mem.wf ∧ m 0xFF 0xFF = .ram ∧ m 0x00 0x00 = .rom ∧ m 0xF8 0x00 = .device ∧ m 0xE0 0x00 = .absent := by
  decide

/-- The four cases of the corrections, each at the edge of its condition, and both values of DAA_H. -/
theorem test_witness_DecimalAdjust :
    let low := fun (f : Flags) (x : Nat) => f.h = true ∨ 9 < x % 16
    let high := fun (f : Flags) (x : Nat) => f.c = true ∨ 9 < x / 16 ∨ (9 ≤ x / 16 ∧ 9 < x % 16)
    let f := State.reset.flags
    (low f 0x9A ∧ high f 0x9A) ∧ (low f 0x8A ∧ ¬ high f 0x8A) ∧ (¬ low f 0xA0 ∧ high f 0xA0) ∧
      (¬ low f 0x99 ∧ ¬ high f 0x99) ∧ Board.default.daaH = .unchanged ∧
      ({ Board.default with daaH := .carry3 } : Board).daaH = .carry3 := by decide

/-- 99 + 99 with a carry, and 0 + 0 without. -/
theorem test_witness_DaaGivesBcdSum :
    (let s : State := { State.reset with regs := { State.reset.regs with a := 0x99 },
                                         flags := { State.reset.flags with c := true } };
      99 < 100 ∧ s.reg .a = packedBcd 99 ∧ s.operand (.imm 0x99) = packedBcd 99 ∧ (true && s.flags.c) = true) ∧
    (0 < 100 ∧ State.reset.reg .a = packedBcd 0 ∧ State.reset.operand (.reg .b) = packedBcd 0) := by decide

/-- A condition that holds and one that does not. -/
theorem test_witness_Calls :
    mixed.mem.wf ∧ (!mixed.flags.z) = true ∧ mixed.flags.z = false := by decide

theorem test_witness_Returns :
    (!mixed.flags.c) = true ∧ mixed.flags.c = false := by decide

theorem test_witness_CallThenReturn :
    let s : State := { mixed with inte := true, sp := 0x0000, schedule := [{ reset := false, int := some (.rst 7) }] }
    s.mem.wf ∧ s.memKind (s.sp - 1) = .ram ∧ s.memKind (s.sp - 2) = .ram ∧ s.acceptable = some (.rst 7) := by decide

/-- An answer that is ready, and none. -/
theorem test_witness_InputAndOutput :
    ({ mixed with ioIn := [0xFF] } : State).ioIn = [0xFF] ∧ mixed.ioIn = [] := by decide

/-- Both machines, for the clauses on P. -/
theorem test_witness_ArithmeticFlags :
    Board.default.variant = .i8080 ∧ ({ Board.default with variant := .mycpu80 } : Board).variant = .mycpu80 := by decide


end Sys2Proof.Tests
end

/-! ### The halt state (10_state.md, R28): the branches of a step, and O14 -/

namespace Sys2Proof.Proofs

open Sys2Proof Sys2Proof.Machine Sys2Proof.Laws

/-- `exec` on HLT is the operation of R162. -/
theorem exec_hlt (s : State) : exec .hlt s = .next { s with halted := true } := exec_instr .hlt s

/-- Clause 1 of R70: asserted reset comes before everything else at the boundary. -/
theorem step_of_reset {s : State} (hreset : s.pins.reset = true) :
    step s = .next s.passBoundary.resetSignal.nextTick := by
  unfold step
  rw [if_pos hreset]

/-- Clause 2 of R70: an interrupt that can be accepted is accepted, whether or not the CPU is halted. -/
theorem step_of_acceptable_rst {s : State} {n : Fin 8} (haccept : s.acceptable = some (.rst n)) :
    step s = .next (s.passBoundary.acceptInterrupt n).nextTick := by
  obtain ⟨_, _, hreset, _⟩ := acceptable_some haccept
  simp only [step, hreset, haccept, Bool.false_eq_true, if_false]

/-- A halted CPU with neither reset nor an acceptable interrupt only passes the boundary (R225). -/
theorem step_of_halted {s : State} (hreset : s.pins.reset = false) (haccept : s.acceptable = none)
    (hhalted : s.halted = true) : step s = .next s.passBoundary := by
  simp only [step, hreset, haccept, hhalted, Bool.false_eq_true, if_false, if_true]

/-- Settles O14: each clause is one branch of the step, and what that branch does to HALTED. -/
theorem haltState : Obligations.HaltState := by
  refine ⟨exec_hlt, ?stays_halted, ?interrupt_ends_halt, ?reset_ends_halt⟩
  case stays_halted =>
    intro s hhalted hreset haccept
    exact step_of_halted hreset haccept hhalted
  case interrupt_ends_halt =>
    intro s n haccept
    refine ⟨_, step_of_acceptable_rst haccept, ?_⟩
    simp only [nextTick_halted, acceptInterrupt_halted]
  case reset_ends_halt =>
    intro s hreset
    refine ⟨_, step_of_reset hreset, ?_⟩
    simp only [nextTick_halted, resetSignal_halted]

end Sys2Proof.Proofs

/-! ### The opcode byte (30_encoding.md): assigned or not, and its length; O3 and O4 -/

namespace Sys2Proof.Proofs

open Sys2Proof Sys2Proof.Machine Sys2Proof.Laws

/-- How many bytes the instruction of a cell takes (R61); a byte that no table assigns has no instruction. -/
def cellLength : Cell → Option Nat
  | .one _ => some 1
  | .d8 _ => some 2
  | .a16 _ => some 3
  | .unassigned => none

/-- The opcode map (R65), cell by cell, has the lengths of the lists of R62 and the gaps of R67. -/
theorem cellLength_opcodeCell (op : Byte) :
    cellLength (opcodeCell op) = if op ∈ unassignedOpcodes then none else some (opLength op) := by
  revert op
  decide +kernel

theorem cellLength_opcodeCell_eq_none_iff (op : Byte) :
    cellLength (opcodeCell op) = none ↔ op ∈ unassignedOpcodes := by
  simp [cellLength_opcodeCell]

/-! ### The decoder by the cell of the first byte -/

theorem decode_cons_of_one {op : Byte} {i : Instr} (hcell : opcodeCell op = .one i) (bytes : List Byte) :
    decode (op :: bytes) = .ok (i, bytes) := by
  simp only [decode, hcell]

/-- Bytes missing after an assigned opcode are another error, so no operand byte matters here. -/
theorem decode_cons_eq_unassigned_iff (op : Byte) (bytes : List Byte) :
    decode (op :: bytes) = .error (.unassigned op) ↔ cellLength (opcodeCell op) = none := by
  cases hcell : opcodeCell op with
  | one i => simp [decode, hcell, cellLength]
  | d8 f => cases bytes <;> simp [decode, hcell, cellLength]
  | a16 f => rcases bytes with _ | ⟨b2, _ | ⟨b3, rest⟩⟩ <;> simp [decode, hcell, cellLength]
  | unassigned => simp [decode, hcell, cellLength]

/-- The decoder takes exactly the bytes of the cell. -/
theorem cellLength_of_decode_cons {op : Byte} {bytes rest : List Byte} {i : Instr}
    (hdecode : decode (op :: bytes) = .ok (i, rest)) :
    ∃ n, cellLength (opcodeCell op) = some n ∧ (op :: bytes).length = rest.length + n := by
  cases hcell : opcodeCell op with
  | one j =>
    simp only [decode, hcell] at hdecode
    cases hdecode
    exact ⟨1, rfl, rfl⟩
  | d8 f =>
    rcases bytes with _ | ⟨b2, bytes⟩ <;> simp only [decode, hcell] at hdecode <;> cases hdecode
    exact ⟨2, rfl, rfl⟩
  | a16 f =>
    rcases bytes with _ | ⟨b2, _ | ⟨b3, bytes⟩⟩ <;> simp only [decode, hcell] at hdecode <;> cases hdecode
    exact ⟨3, rfl, rfl⟩
  | unassigned =>
    simp only [decode, hcell] at hdecode
    cases hdecode

/-- The length of whatever decodes is the length of its opcode byte (R62). -/
theorem length_of_decode_cons {op : Byte} {bytes rest : List Byte} {i : Instr}
    (hdecode : decode (op :: bytes) = .ok (i, rest)) : (op :: bytes).length = rest.length + opLength op := by
  obtain ⟨n, hcell, hlength⟩ := cellLength_of_decode_cons hdecode
  rw [cellLength_opcodeCell] at hcell
  split at hcell
  · cases hcell
  · cases hcell
    exact hlength

/-! ### MOV between registers -/

/-- The MOV pattern of R63 stands in the opcode map at every pair of registers, equal ones included. -/
theorem opcodeCell_mov (dst src : Reg) :
    opcodeCell (fieldByte 1 (regCode dst) (regCode src)) = .one (Form.mov dst src).instr := by
  cases dst <;> cases src <;> rfl

theorem setReg_reg_self (s : State) (r : Reg) : s.setReg r (s.reg r) = s := by
  cases r <;> rfl

/-- MOV of a register to itself writes back what it read. -/
theorem exec_mov_self (r : Reg) (s : State) : exec (Form.mov r r).instr s = .next s := by
  rw [exec_instr]
  exact congrArg _ (setReg_reg_self s r)

/-! ### The statements -/

/-- Settles O3: the decoder by the cell of the byte, and the gaps of the opcode map. -/
theorem twelveBytesAreUnassigned : Obligations.TwelveBytesAreUnassigned := by
  refine ⟨?unassigned, ?mov_self, ?mov_mem_mem, ?hlt⟩
  case unassigned =>
    intro op bytes
    exact (decode_cons_eq_unassigned_iff op bytes).trans (cellLength_opcodeCell_eq_none_iff op)
  case mov_self =>
    intro r
    exact ⟨decode_cons_of_one (opcodeCell_mov r r) [], exec_mov_self r⟩
  case mov_mem_mem => decide
  case hlt => exact decode_cons_of_one rfl []

/-- Settles O4: the two lists of the statement are those of `opLength`, and the count is over all 256 bytes. -/
theorem opcodeAloneFixesLength : Obligations.OpcodeAloneFixesLength := by
  refine ⟨?length, ?count⟩
  case length =>
    intro op bytes rest i hdecode
    have hlength := length_of_decode_cons hdecode
    simpa only [opLength, threeByteOpcodes, twoByteOpcodes, List.contains_iff_mem] using hlength
  case count => decide +kernel

end Sys2Proof.Proofs

/-! ### Loads of one register (40_transfer8.md): O28, O30 and O31 -/

namespace Sys2Proof.Proofs

open Sys2Proof Sys2Proof.Machine Sys2Proof.Laws

/-! ### What writing one register leaves unchanged -/

theorem setReg_sameRegsBut (s : State) (r : Reg) (v : Byte) : SameRegsBut [r] s (s.setReg r v) := fun q hq =>
  reg_setReg_other s v q r (List.ne_of_not_mem_cons hq)

theorem setReg_sameControl (s : State) (r : Reg) (v : Byte) : SameControl s (s.setReg r v) :=
  ⟨setReg_inte s r v, setReg_eiPend s r v, setReg_halted s r v, setReg_board s r v, setReg_schedule s r v,
    setReg_ioIn s r v, setReg_tick s r v⟩

theorem setReg_storesNothing (s : State) (r : Reg) (v : Byte) : StoresNothing s (s.setReg r v) :=
  storesNothing_of_eq s _ (setReg_mem s r v) (setReg_board s r v) (setReg_output s r v)

theorem setReg_regsOnly (s : State) (r : Reg) (v : Byte) : RegsOnly [r] s (s.setReg r v) :=
  ⟨setReg_sameRegsBut s r v, setReg_flags s r v, setReg_sp s r v, setReg_pc s r v, setReg_storesNothing s r v,
    setReg_sameControl s r v⟩

/-- An instruction whose operation is `x[r] <- v` completes with `v` in `r` and nothing else changed. -/
theorem load_spec_of_exec_eq {i : Instr} {s : State} {r : Reg} {v : Byte}
    (hexec : exec i s = .next (s.setReg r v)) :
    ∃ t, exec i s = .next t ∧ t.reg r = v ∧ RegsOnly [r] s t :=
  ⟨_, hexec, reg_setReg_same s r v, setReg_regsOnly s r v⟩

/-! ### The operations -/

/-- `x[r1] <- x[r2]` (R101). -/
theorem exec_mov (dst src : Reg) (s : State) :
    exec (Form.mov dst src).instr s = .next (s.setReg dst (s.reg src)) := exec_instr _ s

/-- `x[r] <- B2` (R104). -/
theorem exec_mvi (dst : Reg) (d8 : Byte) (s : State) :
    exec (Form.mvi dst d8).instr s = .next (s.setReg dst d8) := exec_instr _ s

/-- `x[A] <- MemRead(rp[p], 1)` (R106, R107). -/
theorem exec_ldax (p : PairIx) (s : State) :
    exec (Form.ldax p).instr s = .next (s.setReg .a (s.load .data (s.pairIx p))) := exec_instr _ s

/-- `x[A] <- MemRead(B3 ++ B2, 1)` (R108). -/
theorem exec_lda (a16 : Word) (s : State) :
    exec (.lda a16) s = .next (s.setReg .a (s.load .data a16)) := exec_instr (.lda a16) s

/-! ### The encodings -/

/-- The byte of MOV between registers is the MOV pattern of R63. -/
theorem encode_mov (dst src : Reg) :
    encode (Form.mov dst src).instr = [fieldByte 1 (regCode dst) (regCode src)] := by
  cases dst <;> cases src <;> rfl

/-- The bytes of MVI to a register are the MVI pattern of R63 and the operand. -/
theorem encode_mvi (dst : Reg) (d8 : Byte) :
    encode (Form.mvi dst d8).instr = [fieldByte 0 (regCode dst) 6, d8] := by
  cases dst <;> rfl

theorem loByte_eq_ofNat (v : Word) : loByte v = BitVec.ofNat 8 (v.toNat % 256) := by
  apply BitVec.eq_of_toNat_eq
  simp [loByte]

theorem hiByte_eq_ofNat (v : Word) : hiByte v = BitVec.ofNat 8 (v.toNat / 256) := by
  apply BitVec.eq_of_toNat_eq
  simp [hiByte, Nat.shiftRight_eq_div_pow]

/-- The low byte of the address stands first (R108). -/
theorem encode_lda (a16 : Word) :
    encode (.lda a16) = [0x3A, BitVec.ofNat 8 (a16.toNat % 256), BitVec.ofNat 8 (a16.toNat / 256)] := by
  rw [← loByte_eq_ofNat, ← hiByte_eq_ofNat]
  rfl

/-! ### The statements -/

/-- Settles O28: MOV r1,r2 writes one register, and writing one register changes nothing else. -/
theorem movRegisterToRegister : Obligations.MovRegisterToRegister := fun r1 r2 s =>
  ⟨load_spec_of_exec_eq (exec_mov r1 r2 s), encode_mov r1 r2⟩

/-- Settles O30: MVI r,B2 writes one register, and writing one register changes nothing else. -/
theorem moveImmediate : Obligations.MoveImmediate := fun r d8 s =>
  ⟨load_spec_of_exec_eq (exec_mvi r d8 s), encode_mvi r d8⟩

/-- Settles O31: all three load A; they differ in the address they read. -/
theorem loadAccumulator : Obligations.LoadAccumulator := by
  intro s a16
  refine ⟨?ldaxB, ?ldaxD, ?lda, ?encode_ldaxB, ?encode_ldaxD, ?encode_lda⟩
  case ldaxB => exact load_spec_of_exec_eq (exec_ldax .bc s)
  case ldaxD => exact load_spec_of_exec_eq (exec_ldax .de s)
  case lda => exact load_spec_of_exec_eq (exec_lda a16 s)
  case encode_ldaxB => rfl
  case encode_ldaxD => rfl
  case encode_lda => exact encode_lda a16

end Sys2Proof.Proofs

/-! ### Loads of sixteen bits (41_transfer16.md): O33 -/

namespace Sys2Proof.Proofs

open Sys2Proof Sys2Proof.Machine Sys2Proof.Laws

/-! ### What writing one pair does and leaves unchanged -/

theorem reg_setPair_lo (s : State) (p : Pair) (v : Word) : (s.setPair p v).reg (pairLo p) = loByte v := by
  rw [reg_setPair, if_pos rfl]

theorem reg_setPair_hi (s : State) (p : Pair) (v : Word) : (s.setPair p v).reg (pairHi p) = hiByte v := by
  have hne : pairHi p ≠ pairLo p := by cases p <;> decide
  rw [reg_setPair, if_neg hne, if_pos rfl]

theorem setPair_sameRegsBut (s : State) (p : Pair) (v : Word) :
    SameRegsBut [pairHi p, pairLo p] s (s.setPair p v) := by
  intro q hq
  obtain ⟨hhi, hlo⟩ : q ≠ pairHi p ∧ q ≠ pairLo p := by simpa using hq
  rw [reg_setPair, if_neg hlo, if_neg hhi]

theorem setPair_sameControl (s : State) (p : Pair) (v : Word) : SameControl s (s.setPair p v) :=
  ⟨setPair_inte s p v, setPair_eiPend s p v, setPair_halted s p v, setPair_board s p v, setPair_schedule s p v,
    setPair_ioIn s p v, setPair_tick s p v⟩

theorem setPair_storesNothing (s : State) (p : Pair) (v : Word) : StoresNothing s (s.setPair p v) :=
  storesNothing_of_eq s _ (setPair_mem s p v) (setPair_board s p v) (setPair_output s p v)

theorem setPair_regsOnly (s : State) (p : Pair) (v : Word) :
    RegsOnly [pairHi p, pairLo p] s (s.setPair p v) :=
  ⟨setPair_sameRegsBut s p v, setPair_flags s p v, setPair_sp s p v, setPair_pc s p v,
    setPair_storesNothing s p v, setPair_sameControl s p v⟩

/-- An instruction whose operation is `rp[p] <- v` completes with the halves of `v` in the pair and nothing else
changed. -/
theorem loadPair_spec_of_exec_eq {i : Instr} {s : State} {p : Pair} {v : Word}
    (hexec : exec i s = .next (s.setPair p v)) :
    ∃ t, exec i s = .next t ∧ t.reg (pairHi p) = hiByte v ∧ t.reg (pairLo p) = loByte v ∧
      RegsOnly [pairHi p, pairLo p] s t :=
  ⟨_, hexec, reg_setPair_hi s p v, reg_setPair_lo s p v, setPair_regsOnly s p v⟩

/-! ### The operations -/

/-- `rp[p] <- B3 ++ B2`, or SP (R112 to R115). -/
theorem exec_lxi (p : PairSp) (d16 : Word) (s : State) :
    exec (Form.lxi p d16).instr s = .next (s.setPairSp p d16) := exec_instr _ s

/-- `SP <- rp[HL]` (R118). -/
theorem exec_sphl (s : State) : exec .sphl s = .next { s with sp := s.pair .hl } := exec_instr .sphl s

/-! ### The encodings -/

/-- The bytes of LXI are the LXI pattern of R63 and the operand, its low byte first. -/
theorem encode_lxi (p : PairSp) (d16 : Word) :
    encode (Form.lxi p d16).instr = [pairByte 0 (pairSpCode p) 1, loByte d16, hiByte d16] := by
  cases p <;> rfl

/-! ### The statement -/

/-- Settles O33: LXI to a pair writes that pair, and writing one pair changes nothing else; LXI SP and SPHL write
SP. -/
theorem loadSixteenBits : Obligations.LoadSixteenBits := by
  intro s d16
  refine ⟨?lxiB, ?lxiD, ?lxiH, ?lxiSP, ?sphl, ?encode_lxiB, ?encode_lxiD, ?encode_lxiH, ?encode_lxiSP,
    ?encode_sphl⟩
  case lxiB => exact loadPair_spec_of_exec_eq (exec_lxi .bc d16 s)
  case lxiD => exact loadPair_spec_of_exec_eq (exec_lxi .de d16 s)
  case lxiH => exact loadPair_spec_of_exec_eq (exec_lxi .hl d16 s)
  case lxiSP => exact ⟨_, exec_lxi .sp d16 s, rfl⟩
  case sphl => exact ⟨_, exec_sphl s, rfl⟩
  case encode_lxiB => exact encode_lxi .bc d16
  case encode_lxiD => exact encode_lxi .de d16
  case encode_lxiH => exact encode_lxi .hl d16
  case encode_lxiSP => exact encode_lxi .sp d16
  case encode_sphl => rfl

end Sys2Proof.Proofs

/-! ### The exchange of DE and HL (42_exchange.md, R127): O38 -/

namespace Sys2Proof.Proofs

open Sys2Proof Sys2Proof.Machine Sys2Proof.Laws

/-! ### Frames: one after another, and when a frame is an equality -/

/-- What two register frames in a row leave unchanged. -/
theorem regsOnly_trans {l m : List Reg} {s t u : State} (hst : RegsOnly l s t) (htu : RegsOnly m t u) :
    RegsOnly (l ++ m) s u := by
  obtain ⟨hregs, hflags, hsp, hpc, ⟨hmem, houtput, _⟩,
    hinte, heiPend, hhalted, hboard, hschedule, hioIn, htick⟩ := hst
  obtain ⟨hregs', hflags', hsp', hpc', ⟨hmem', houtput', _⟩,
    hinte', heiPend', hhalted', hboard', hschedule', hioIn', htick'⟩ := htu
  refine ⟨?regs, hflags'.trans hflags, hsp'.trans hsp, hpc'.trans hpc, ?storesNothing,
    hinte'.trans hinte, heiPend'.trans heiPend, hhalted'.trans hhalted, hboard'.trans hboard,
    hschedule'.trans hschedule, hioIn'.trans hioIn, htick'.trans htick⟩
  case regs =>
    intro r hr
    obtain ⟨hl, hm⟩ : r ∉ l ∧ r ∉ m := by simpa using hr
    exact (hregs' r hm).trans (hregs r hl)
  case storesNothing =>
    exact storesNothing_of_eq s u (hmem'.trans hmem) (hboard'.trans hboard) (houtput'.trans houtput)

/-- The register file is its seven registers (R13). -/
theorem regs_eq_of_reg_eq {s t : State} (hreg : ∀ r, t.reg r = s.reg r) : t.regs = s.regs :=
  calc t.regs
    _ = ⟨t.reg .b, t.reg .c, t.reg .d, t.reg .e, t.reg .h, t.reg .l, t.reg .a⟩ := rfl
    _ = ⟨s.reg .b, s.reg .c, s.reg .d, s.reg .e, s.reg .h, s.reg .l, s.reg .a⟩ := by simp only [hreg]
    _ = s.regs := rfl

/-- With every register equal too, a register frame is an equality: it leaves no part of the state out. -/
theorem eq_of_regsOnly {l : List Reg} {s t : State} (hframe : RegsOnly l s t) (hreg : ∀ r, t.reg r = s.reg r) :
    t = s := by
  have hregs : t.regs = s.regs := regs_eq_of_reg_eq hreg
  obtain ⟨_, hflags, hsp, hpc, ⟨hmem, houtput, _⟩,
    hinte, heiPend, hhalted, hboard, hschedule, hioIn, htick⟩ := hframe
  cases s
  cases t
  simp_all only

/-! ### The exchange -/

/-- The state after DE and HL are exchanged. -/
def exchanged (s : State) : State := (s.setPair .hl (s.pair .de)).setPair .de (s.pair .hl)

/-- `t <- rp[HL]; rp[HL] <- rp[DE]; rp[DE] <- t` (R127). -/
theorem exec_xchg (s : State) : exec .xchg s = .next (exchanged s) := exec_instr .xchg s

/-- The register whose value XCHG brings into `r`: H with D and L with E (R127). -/
def exchangePartner : Reg → Reg
  | .h => .d
  | .d => .h
  | .l => .e
  | .e => .l
  | .b => .b
  | .c => .c
  | .a => .a

theorem exchangePartner_exchangePartner (r : Reg) : exchangePartner (exchangePartner r) = r := by
  cases r <;> rfl

/-- Every register after the exchange. -/
theorem reg_exchanged (s : State) (r : Reg) : (exchanged s).reg r = s.reg (exchangePartner r) := by
  unfold exchanged
  rw [reg_setPair, reg_setPair]
  cases r <;> simp [State.pair, pairHi, pairLo, exchangePartner]

theorem exchanged_regsOnly (s : State) : RegsOnly [.h, .l, .d, .e] s (exchanged s) :=
  regsOnly_trans (setPair_regsOnly s .hl (s.pair .de)) (setPair_regsOnly _ .de (s.pair .hl))

/-- Two exchanges in a row restore the state: each register comes back from its partner. -/
theorem exchanged_exchanged (s : State) : exchanged (exchanged s) = s := by
  have hframe := regsOnly_trans (exchanged_regsOnly s) (exchanged_regsOnly (exchanged s))
  refine eq_of_regsOnly hframe fun r => ?_
  rw [reg_exchanged, reg_exchanged, exchangePartner_exchangePartner]

/-! ### The statement -/

/-- Settles O38: XCHG writes the two pairs and nothing else, each register from its partner, and the exchange is its
own inverse. -/
theorem exchangePairs : Obligations.ExchangePairs := by
  intro s
  refine ⟨⟨exchanged s, exec_xchg s, reg_exchanged s .h, reg_exchanged s .l, reg_exchanged s .d,
    reg_exchanged s .e, exchanged_regsOnly s, ?twice⟩, ?encoding⟩
  case twice => rw [exec_xchg, exchanged_exchanged]
  case encoding => rfl

end Sys2Proof.Proofs

/-! ### 8-bit arithmetic and logic (43_alu8.md): O40, O44 and O45 -/

namespace Sys2Proof.Proofs

open Sys2Proof Sys2Proof.Machine Sys2Proof.Laws

/-! ### The bits of a byte as a number -/

/-- The topmost bit is the carry: it tells the upper half of the range from the lower. -/
theorem getLsbD_top_iff {n : Nat} (v : BitVec (n + 1)) : v.getLsbD n = true ↔ 2 ^ n ≤ v.toNat := by
  have htop : v.msb = v.getLsbD n := BitVec.msb_eq_getLsbD_last v
  rw [← htop, BitVec.msb_eq_decide, decide_eq_true_iff, Nat.add_sub_cancel]

theorem loNibble_toNat (v : Byte) : (loNibble v).toNat = v.toNat % 16 := by
  simp [loNibble]

theorem toNat_bitOf {n : Nat} (hn : 0 < n) (b : Bool) : (bitOf n b).toNat = b.toNat := by
  have hlt : b.toNat < 2 ^ n := (Bool.toNat_lt b).trans_le (Nat.le_self_pow hn.ne' 2)
  rw [bitOf, BitVec.toNat_setWidth, BitVec.toNat_ofBool, Nat.mod_eq_of_lt hlt]

theorem ite_getLsbD (v : Byte) (k : Nat) : (if v.getLsbD k = true then 1 else 0) = v.toNat / 2 ^ k % 2 := by
  rw [← Nat.toNat_testBit, BitVec.testBit_toNat]
  cases v.getLsbD k <;> rfl

/-- `parity` counts the bits that `bitSum` adds (R23). -/
theorem parity_eq_true_iff (v : Byte) : parity v = true ↔ bitSum v.toNat % 2 = 0 := by
  have hcount : ((List.range 8).countP fun k => v.getLsbD k) = bitSum v.toNat := by
    simp only [List.range, List.range.loop, List.countP_cons, List.countP_nil, ite_getLsbD, bitSum,
      Nat.reducePow, Nat.div_one]
    ring
  rw [parity, hcount, beq_iff_eq]

/-! ### Z, S and P -/

theorem beq_zero_iff (v : Byte) : (v == 0#8) = true ↔ v.toNat = 0 := by
  rw [beq_iff_eq, ← BitVec.toNat_inj, BitVec.toNat_ofNat, Nat.zero_mod]

/-- `logic8` sets Z, S and P from the result on both machines (R87). -/
theorem logic8_resultFlags (v : Byte) : ResultFlags v.toNat (logic8 v).2 :=
  ⟨beq_zero_iff v, getLsbD_top_iff v, parity_eq_true_iff v⟩

/-- `zsp_arith` sets Z and S from the result, and P by the variant (R86). -/
theorem zspArith_arithmeticFlags (var : Variant) {f g : Flags} (hp : g.p = f.p) (v : Byte) :
    ArithmeticFlags var v.toNat f (zspArith var g v) := by
  refine ⟨beq_zero_iff v, getLsbD_top_iff v, ?i8080, ?mycpu80⟩
  case i8080 =>
    rintro rfl
    exact parity_eq_true_iff v
  case mycpu80 =>
    rintro rfl
    exact hp

/-! ### The sum (R84) -/

section add8
variable (var : Variant) (f : Flags) (a b : Byte) (cin : Bool)

theorem toNat_add8_sum :
    (a.setWidth 9 + b.setWidth 9 + bitOf 9 cin : BitVec 9).toNat = a.toNat + b.toNat + cin.toNat := by
  have ha := a.isLt
  have hb := b.isLt
  have hc := cin.toNat_lt
  simp only [BitVec.toNat_add, BitVec.toNat_setWidth, toNat_bitOf (Nat.succ_pos 8)]
  omega

theorem toNat_add8_halfSum :
    ((loNibble a).setWidth 5 + (loNibble b).setWidth 5 + bitOf 5 cin : BitVec 5).toNat =
      a.toNat % 16 + b.toNat % 16 + cin.toNat := by
  have hc := cin.toNat_lt
  simp only [BitVec.toNat_add, BitVec.toNat_setWidth, toNat_bitOf (Nat.succ_pos 4), loNibble_toNat]
  omega

theorem add8_toNat : (add8 var f a b cin).1.toNat = (a.toNat + b.toNat + cin.toNat) % 256 := by
  simp only [add8, BitVec.toNat_setWidth, toNat_add8_sum]

theorem add8_c : (add8 var f a b cin).2.c = true ↔ 256 ≤ a.toNat + b.toNat + cin.toNat := by
  rw [← toNat_add8_sum]
  exact getLsbD_top_iff _

theorem add8_h :
    (add8 var f a b cin).2.h = true ↔ 16 ≤ a.toNat % 16 + b.toNat % 16 + cin.toNat := by
  rw [← toNat_add8_halfSum]
  exact getLsbD_top_iff _

theorem add8_arithmeticFlags :
    ArithmeticFlags var ((a.toNat + b.toNat + cin.toNat) % 256) f (add8 var f a b cin).2 := by
  rw [← add8_toNat var f]
  exact zspArith_arithmeticFlags var rfl _

end add8

/-! ### One more and one less (R89) -/

section inrDcr
variable (var : Variant) (f : Flags) (a : Byte)

theorem loNibble_beq_iff (n : BitVec 4) : (loNibble a == n) = true ↔ a.toNat % 16 = n.toNat := by
  rw [beq_iff_eq, ← BitVec.toNat_inj, loNibble_toNat]

theorem inr8_toNat : (inr8 var f a).1.toNat = (a.toNat + 1) % 256 := BitVec.toNat_add a 1#8

theorem inr8_h : (inr8 var f a).2.h = true ↔ a.toNat % 16 = 15 := loNibble_beq_iff a 0xF#4

theorem inr8_c : (inr8 var f a).2.c = f.c := rfl

theorem inr8_arithmeticFlags : ArithmeticFlags var ((a.toNat + 1) % 256) f (inr8 var f a).2 := by
  rw [← inr8_toNat var f]
  exact zspArith_arithmeticFlags var rfl _

theorem dcr8_toNat : (dcr8 var f a).1.toNat = (a.toNat + 255) % 256 := by
  rw [Nat.add_comm]
  exact BitVec.toNat_sub a 1#8

theorem dcr8_h : (dcr8 var f a).2.h = true ↔ a.toNat % 16 = 0 := loNibble_beq_iff a 0x0#4

theorem dcr8_c : (dcr8 var f a).2.c = f.c := rfl

theorem dcr8_arithmeticFlags : ArithmeticFlags var ((a.toNat + 255) % 256) f (dcr8 var f a).2 := by
  rw [← dcr8_toNat var f]
  exact zspArith_arithmeticFlags var rfl _

end inrDcr

/-! ### Writing one register and the flags -/

/-- The state after `x[r] <- v` and new flags `f`. -/
def withRegAndFlags (s : State) (r : Reg) (v : Byte) (f : Flags) : State := { s.setReg r v with flags := f }

theorem withRegAndFlags_flags (s : State) (r : Reg) (v : Byte) (f : Flags) :
    (withRegAndFlags s r v f).flags = f := rfl

theorem reg_withRegAndFlags (s : State) (r q : Reg) (v : Byte) (f : Flags) :
    (withRegAndFlags s r v f).reg q = (s.setReg r v).reg q := reg_congr _ _ rfl q

theorem reg_withRegAndFlags_same (s : State) (r : Reg) (v : Byte) (f : Flags) :
    (withRegAndFlags s r v f).reg r = v := by
  rw [reg_withRegAndFlags, reg_setReg_same]

theorem withRegAndFlags_regsAndFlagsOnly (s : State) (r : Reg) (v : Byte) (f : Flags) :
    RegsAndFlagsOnly [r] s (withRegAndFlags s r v f) :=
  ⟨fun q hq => (reg_withRegAndFlags s r q v f).trans (setReg_sameRegsBut s r v q hq), setReg_sp s r v,
    setReg_pc s r v, storesNothing_of_eq s _ (setReg_mem s r v) (setReg_board s r v) (setReg_output s r v),
    setReg_sameControl s r v⟩

/-! ### The operations -/

/-- An accumulator operation other than CMP writes its result to A (R83). -/
theorem exec_alu {op : AluOp} (hwrites : aluKeepsA op = false) (o : Operand) (s : State) :
    exec (Form.alu op o).instr s =
      .next (withRegAndFlags s .a (aluCompute s.board.variant op s.flags (s.reg .a) (s.operand o)).1
        (aluCompute s.board.variant op s.flags (s.reg .a) (s.operand o)).2) := by
  rw [exec_instr]
  exact if_neg (by simp [hwrites])

/-- `x[A] <- add8(x[A], op2, 0)` (R129 to R131). -/
theorem exec_add (o : Operand) (s : State) :
    exec (Form.alu .add o).instr s =
      .next (withRegAndFlags s .a (add8 s.board.variant s.flags (s.reg .a) (s.operand o) false).1
        (add8 s.board.variant s.flags (s.reg .a) (s.operand o) false).2) := exec_alu rfl o s

/-- `x[r] <- inr8(x[r])` (R153). -/
theorem exec_inr (r : Reg) (s : State) :
    exec (Form.inr r).instr s =
      .next (withRegAndFlags s r (inr8 s.board.variant s.flags (s.reg r)).1
        (inr8 s.board.variant s.flags (s.reg r)).2) := exec_instr _ s

/-- `x[r] <- dcr8(x[r])` (R155). -/
theorem exec_dcr (r : Reg) (s : State) :
    exec (Form.dcr r).instr s =
      .next (withRegAndFlags s r (dcr8 s.board.variant s.flags (s.reg r)).1
        (dcr8 s.board.variant s.flags (s.reg r)).2) := exec_instr _ s

/-! ### The encodings -/

/-- The byte of an accumulator operation on a register is the ALU pattern of R63. -/
theorem encode_alu_reg (op : AluOp) (r : Reg) :
    encode (Form.alu op (.reg r)).instr = [fieldByte 2 (aluCode op) (regCode r)] := by
  cases op <;> cases r <;> rfl

/-- The code 6 in the register field stands for the byte at HL (R63). -/
theorem encode_alu_mem (op : AluOp) : encode (Form.alu op .mem).instr = [fieldByte 2 (aluCode op) 6] := by
  cases op <;> rfl

theorem encode_alu_imm (op : AluOp) (d8 : Byte) :
    encode (Form.alu op (.imm d8)).instr = [fieldByte 3 (aluCode op) 6, d8] := by
  cases op <;> rfl

theorem encode_inr (r : Reg) : encode (Form.inr r).instr = [fieldByte 0 (regCode r) 4] := by
  cases r <;> rfl

theorem encode_dcr (r : Reg) : encode (Form.dcr r).instr = [fieldByte 0 (regCode r) 5] := by
  cases r <;> rfl

/-! ### What the operations do, whatever the form of the operand -/

theorem add_spec (o : Operand) (s : State) :
    ∃ t, exec (Form.alu .add o).instr s = .next t ∧
      (t.reg .a).toNat = ((s.reg .a).toNat + (s.operand o).toNat) % 256 ∧
      (t.flags.c = true ↔ 256 ≤ (s.reg .a).toNat + (s.operand o).toNat) ∧
      (t.flags.h = true ↔ 16 ≤ (s.reg .a).toNat % 16 + (s.operand o).toNat % 16) ∧
      ArithmeticFlags s.board.variant (((s.reg .a).toNat + (s.operand o).toNat) % 256) s.flags t.flags ∧
      RegsAndFlagsOnly [.a] s t := by
  refine ⟨_, exec_add o s, ?sum, add8_c .., add8_h .., add8_arithmeticFlags .., withRegAndFlags_regsAndFlagsOnly ..⟩
  case sum =>
    rw [reg_withRegAndFlags_same]
    exact add8_toNat ..

/-- A logical operation is one operation on the bits, the same at every place; `logic8` adds the flags (R87). -/
theorem logic_spec {op : AluOp} {bytewise : Byte → Byte → Byte} {bit : Bool → Bool → Bool}
    (hwrites : aluKeepsA op = false)
    (hcompute : ∀ var f a b, aluCompute var op f a b = logic8 (bytewise a b))
    (hbit : ∀ a b k, (bytewise a b).getLsbD k = bit (a.getLsbD k) (b.getLsbD k)) (o : Operand) (s : State) :
    ∃ t, exec (Form.alu op o).instr s = .next t ∧
      (∀ k, (t.reg .a).getLsbD k = bit ((s.reg .a).getLsbD k) ((s.operand o).getLsbD k)) ∧
      ResultFlags (t.reg .a).toNat t.flags ∧ t.flags.c = false ∧ t.flags.h = false ∧
      RegsAndFlagsOnly [.a] s t := by
  have hexec := exec_alu hwrites o s
  rw [hcompute] at hexec
  refine ⟨_, hexec, ?bits, ?result, rfl, rfl, withRegAndFlags_regsAndFlagsOnly ..⟩ <;>
    rw [reg_withRegAndFlags_same]
  case bits => exact hbit _ _
  case result => exact logic8_resultFlags _

/-! ### The statements -/

/-- Settles O40: the operand has three forms, and ADD does the same with each. -/
theorem addInstructions : Obligations.AddInstructions := by
  intro o s
  cases o with
  | reg r => exact ⟨add_spec (.reg r) s, encode_alu_reg .add r⟩
  | mem => exact ⟨add_spec .mem s, encode_alu_mem .add⟩
  | imm d8 => exact ⟨add_spec (.imm d8) s, encode_alu_imm .add d8⟩

/-- Settles O44: ANA, ORA and XRA are one operation up to what they do with a bit, on each form of the operand. -/
theorem logicalInstructions : Obligations.LogicalInstructions := by
  intro o s
  have hana := logic_spec (op := .ana) (bit := and) rfl (fun _ _ _ _ => rfl) fun _ _ _ => BitVec.getLsbD_and
  have hora := logic_spec (op := .ora) (bit := or) rfl (fun _ _ _ _ => rfl) fun _ _ _ => BitVec.getLsbD_or
  have hxra := logic_spec (op := .xra) (bit := xor) rfl (fun _ _ _ _ => rfl) fun _ _ _ => BitVec.getLsbD_xor
  cases o with
  | reg r =>
    exact ⟨hana (.reg r) s, hora (.reg r) s, hxra (.reg r) s,
      encode_alu_reg .ana r, encode_alu_reg .xra r, encode_alu_reg .ora r⟩
  | mem =>
    exact ⟨hana .mem s, hora .mem s, hxra .mem s, encode_alu_mem .ana, encode_alu_mem .xra, encode_alu_mem .ora⟩
  | imm d8 =>
    exact ⟨hana (.imm d8) s, hora (.imm d8) s, hxra (.imm d8) s,
      encode_alu_imm .ana d8, encode_alu_imm .xra d8, encode_alu_imm .ora d8⟩

/-- Settles O45: INR and DCR write one register and the flags, and neither writes C. -/
theorem incrementAndDecrementRegister : Obligations.IncrementAndDecrementRegister := by
  intro r s
  refine ⟨⟨_, exec_inr r s, ?one_more, inr8_h .., inr8_arithmeticFlags .., inr8_c ..,
      withRegAndFlags_regsAndFlagsOnly ..⟩,
    ⟨_, exec_dcr r s, ?one_less, dcr8_h .., dcr8_arithmeticFlags .., dcr8_c ..,
      withRegAndFlags_regsAndFlagsOnly ..⟩, encode_inr r, encode_dcr r⟩ <;>
    rw [reg_withRegAndFlags_same]
  case one_more => exact inr8_toNat ..
  case one_less => exact dcr8_toNat ..

end Sys2Proof.Proofs

/-! ### Complement, carry and no operation (44_misc_control.md): O49 -/

namespace Sys2Proof.Proofs

open Sys2Proof Sys2Proof.Machine Sys2Proof.Laws

/-- `x[A] <- x[A] ^ 0xFF` (R158). -/
theorem exec_cma (s : State) : exec .cma s = .next (s.setReg .a (s.reg .a ^^^ 0xFF#8)) := exec_instr .cma s

/-- `F.C <- 1 - F.C` (R159). -/
theorem exec_cmc (s : State) : exec .cmc s = .next { s with flags := { s.flags with c := !s.flags.c } } :=
  exec_instr .cmc s

/-- `F.C <- 1` (R160). -/
theorem exec_stc (s : State) : exec .stc s = .next { s with flags := { s.flags with c := true } } :=
  exec_instr .stc s

/-- NOP has no effect (R161). -/
theorem exec_nop (s : State) : exec .nop s = .next s := exec_instr .nop s

/-- Exclusive or with eight ones is the complement, which is the distance to 255. -/
theorem toNat_xor_ff (v : Byte) : (v ^^^ 0xFF#8).toNat = 255 - v.toNat := by
  have hones : v ^^^ 0xFF#8 = ~~~v := BitVec.xor_allOnes
  rw [hones, BitVec.toNat_not]

/-- Settles O49: CMA writes one register, CMC and STC write the carry flag, NOP writes nothing. -/
theorem complementAndCarryInstructions : Obligations.ComplementAndCarryInstructions := by
  intro s
  refine ⟨?cma, exec_cmc s, exec_stc s, exec_nop s, ?bytes⟩
  case cma =>
    obtain ⟨t, hexec, ha, hframe⟩ := load_spec_of_exec_eq (exec_cma s)
    refine ⟨t, hexec, ?_, hframe⟩
    rw [ha]
    exact toNat_xor_ff (s.reg .a)
  case bytes => exact ⟨rfl, rfl, rfl, rfl⟩

end Sys2Proof.Proofs

/-! ### Jumps (47_jump.md): O55 -/

namespace Sys2Proof.Proofs

open Sys2Proof Sys2Proof.Machine Sys2Proof.Laws

/-! ### What writing PC leaves unchanged -/

theorem withPc_storesNothing (s : State) (v : Word) : StoresNothing s { s with pc := v } :=
  storesNothing_of_eq s _ rfl rfl rfl

theorem withPc_sameControl (s : State) (v : Word) : SameControl s { s with pc := v } :=
  ⟨rfl, rfl, rfl, rfl, rfl, rfl, rfl⟩

theorem withPc_pcOnly (s : State) (v : Word) : PcOnly s { s with pc := v } :=
  ⟨fun _ _ => rfl, rfl, rfl, withPc_storesNothing s v, withPc_sameControl s v⟩

/-- An instruction whose operation is `pc <- v` completes at `v` and changes nothing else (R94). -/
theorem jump_spec_of_exec_eq {i : Instr} {s : State} {v : Word} (hexec : exec i s = .next { s with pc := v }) :
    ∃ t, exec i s = .next t ∧ t.pc = v ∧ PcOnly s t :=
  ⟨_, hexec, rfl, withPc_pcOnly s v⟩

/-! ### The operations -/

/-- `pc <- addr16` (R181). -/
theorem exec_jmp (a16 : Word) (s : State) : exec (.jmp a16) s = .next { s with pc := a16 } :=
  exec_instr (.jmp a16) s

/-- `pc <- rp[HL]` (R190). -/
theorem exec_pchl (s : State) : exec .pchl s = .next { s with pc := s.pair .hl } := exec_instr .pchl s

/-- `if cond(cc): pc <- addr16` (R182 to R189): not to jump is to write PC with what it holds. -/
theorem exec_jcond (cc : Cond) (a16 : Word) (s : State) :
    exec (Form.jcond cc a16).instr s =
      .next { s with pc := if condHolds cc s.flags then a16 else s.pc } := by
  rw [exec_instr]
  show jumpIf cc a16 s = _
  unfold jumpIf
  split
  case isTrue => rfl
  case isFalse => rfl

theorem jcond_spec (cc : Cond) (a16 : Word) (s : State) :
    ∃ t, exec (Form.jcond cc a16).instr s = .next t ∧
      t.pc = (if condHolds cc s.flags then a16 else s.pc) ∧ PcOnly s t :=
  jump_spec_of_exec_eq (exec_jcond cc a16 s)

/-! ### The encodings -/

/-- The bytes of a conditional jump are the pattern `11 ccc 010` of R63 and the target, its low byte first. -/
theorem encode_jcond (cc : Cond) (a16 : Word) :
    encode (Form.jcond cc a16).instr = [fieldByte 3 (condCode cc) 2, loByte a16, hiByte a16] := by
  cases cc <;> rfl

/-! ### The statement -/

/-- Settles O55: every jump writes PC and nothing else, and the eight conditional jumps are one operation, each
with its condition of R93. -/
theorem jumps : Obligations.Jumps := by
  intro s a16
  exact ⟨jump_spec_of_exec_eq (exec_jmp a16 s), jcond_spec .nz a16 s, jcond_spec .z a16 s,
    jcond_spec .nc a16 s, jcond_spec .c a16 s, jcond_spec .po a16 s, jcond_spec .pe a16 s,
    jcond_spec .p a16 s, jcond_spec .m a16 s, jump_spec_of_exec_eq (exec_pchl s),
    rfl, encode_jcond .nz a16, encode_jcond .z a16, encode_jcond .nc a16, encode_jcond .c a16,
    encode_jcond .po a16, encode_jcond .pe a16, encode_jcond .p a16, encode_jcond .m a16, rfl⟩

end Sys2Proof.Proofs

/-! ### The encoding both ways (30_encoding.md sections 1 to 4): O1, O2, O5 and O6 -/

namespace Sys2Proof.Proofs

open Sys2Proof Sys2Proof.Machine Sys2Proof.Laws

/-! ### Decoding by the cell of the opcode byte -/

/-- The instructions of a cell of the opcode map (R65), each with the operand bytes it stands for (R61, R64). -/
inductive CellHolds : Cell → Instr → List Byte → Prop
  | one (i : Instr) : CellHolds (.one i) i []
  | d8 {f : Byte → Instr} {i : Instr} {b2 : Byte} (h : f b2 = i) : CellHolds (.d8 f) i [b2]
  | a16 {f : Word → Instr} {i : Instr} {v : Word} (h : f v = i) : CellHolds (.a16 f) i [loByte v, hiByte v]

theorem decode_of_cellHolds {op : Byte} {i : Instr} {operands : List Byte}
    (hcell : CellHolds (opcodeCell op) i operands) (rest : List Byte) :
    decode (op :: (operands ++ rest)) = .ok (i, rest) := by
  generalize hc : opcodeCell op = c at hcell
  cases hcell with
  | one => simp [decode, hc]
  | d8 h => simp [decode, hc, h]
  | a16 h => simp [decode, hc, wordOf_hi_lo, h]

theorem cellHolds_of_decode {op : Byte} {bytes rest : List Byte} {i : Instr}
    (hdecode : decode (op :: bytes) = .ok (i, rest)) :
    ∃ operands, CellHolds (opcodeCell op) i operands ∧ bytes = operands ++ rest := by
  cases hcell : opcodeCell op with
  | one j =>
    simp only [decode, hcell] at hdecode
    cases hdecode
    exact ⟨_, .one _, rfl⟩
  | d8 f =>
    rcases bytes with _ | ⟨b2, bytes⟩ <;> simp only [decode, hcell] at hdecode <;> cases hdecode
    exact ⟨_, .d8 rfl, rfl⟩
  | a16 f =>
    rcases bytes with _ | ⟨b2, _ | ⟨b3, bytes⟩⟩ <;> simp only [decode, hcell] at hdecode <;> cases hdecode
    exact ⟨_, .a16 rfl, by simp⟩
  | unassigned =>
    simp only [decode, hcell] at hdecode
    cases hdecode

/-! ### The bytes of an instruction by its fields -/

/-- The opcode byte that the patterns of R63 make of the fields of an instruction. -/
def formOpcode : Form → Byte
  | .mov dst src => fieldByte 1 (regCode dst) (regCode src)
  | .movRM dst => fieldByte 1 (regCode dst) 6
  | .movMR src => fieldByte 1 6 (regCode src)
  | .mvi dst _ => fieldByte 0 (regCode dst) 6
  | .mviM _ => fieldByte 0 6 6
  | .inr r => fieldByte 0 (regCode r) 4
  | .inrM => fieldByte 0 6 4
  | .dcr r => fieldByte 0 (regCode r) 5
  | .dcrM => fieldByte 0 6 5
  | .alu op (.reg r) => fieldByte 2 (aluCode op) (regCode r)
  | .alu op .mem => fieldByte 2 (aluCode op) 6
  | .alu op (.imm _) => fieldByte 3 (aluCode op) 6
  | .lxi p _ => pairByte 0 (pairSpCode p) 1
  | .dad p => pairByte 0 (pairSpCode p) 9
  | .inx p => pairByte 0 (pairSpCode p) 3
  | .dcx p => pairByte 0 (pairSpCode p) 11
  | .stax p => pairByte 0 (pairIxCode p) 2
  | .ldax p => pairByte 0 (pairIxCode p) 10
  | .push p => pairByte 3 (pairCode p) 5
  | .pop p => pairByte 3 (pairCode p) 1
  | .pushPsw => pairByte 3 3 5
  | .popPsw => pairByte 3 3 1
  | .jcond cc _ => fieldByte 3 (condCode cc) 2
  | .ccond cc _ => fieldByte 3 (condCode cc) 4
  | .rcond cc => fieldByte 3 (condCode cc) 0
  | .rst n => fieldByte 3 (BitVec.ofNat 3 n.val) 7
  | .nop => 0x00
  | .rlc => 0x07
  | .rrc => 0x0F
  | .ral => 0x17
  | .rar => 0x1F
  | .shld _ => 0x22
  | .daa => 0x27
  | .lhld _ => 0x2A
  | .cma => 0x2F
  | .sta _ => 0x32
  | .stc => 0x37
  | .lda _ => 0x3A
  | .cmc => 0x3F
  | .hlt => 0x76
  | .jmp _ => 0xC3
  | .ret => 0xC9
  | .call _ => 0xCD
  | .outPort _ => 0xD3
  | .inPort _ => 0xDB
  | .xthl => 0xE3
  | .pchl => 0xE9
  | .xchg => 0xEB
  | .di => 0xF3
  | .sphl => 0xF9
  | .ei => 0xFB

/-- The bytes after the opcode, those of formats F2 and F3 (R61, R64). -/
def formOperands : Form → List Byte
  | .mvi _ d8 | .mviM d8 | .alu _ (.imm d8) | .inPort d8 | .outPort d8 => [d8]
  | .lda v | .sta v | .lxi _ v | .lhld v | .shld v | .jmp v | .jcond _ v | .call v | .ccond _ v =>
    [loByte v, hiByte v]
  | _ => []

/-- The encoder writes the pattern of R63 and the operand bytes. -/
theorem encode_instr (f : Form) : encode f.instr = formOpcode f :: formOperands f := by
  cases f with
  | mov dst src => exact encode_mov dst src
  | mvi dst d8 => exact encode_mvi dst d8
  | movRM r | movMR r => cases r <;> rfl
  | alu op src =>
    cases src with
    | reg r => exact encode_alu_reg op r
    | mem => exact encode_alu_mem op
    | imm d8 => exact encode_alu_imm op d8
  | inr r => exact encode_inr r
  | dcr r => exact encode_dcr r
  | lxi p d16 => exact encode_lxi p d16
  | dad p | inx p | dcx p => cases p <;> rfl
  | stax p | ldax p => cases p <;> rfl
  | push p | pop p => cases p <;> rfl
  | jcond cc a16 => exact encode_jcond cc a16
  | ccond cc a16 => cases cc <;> rfl
  | rcond cc => cases cc <;> rfl
  | rst n => fin_cases n <;> rfl
  | _ => rfl

/-- The opcode map has every instruction of the manual's tables at the byte of its pattern. (Where an operand is
bound, `formOpcode` is unfolded first, so that the opcode byte is a closed term, which evaluates.) -/
theorem cellHolds_formOpcode (f : Form) : CellHolds (opcodeCell (formOpcode f)) f.instr (formOperands f) := by
  cases f with
  | mov dst src => rw [formOpcode, opcodeCell_mov]; exact .one _
  | movRM r | movMR r | inr r | dcr r => cases r <;> exact .one _
  | mvi r d8 => rw [formOpcode]; cases r <;> exact .d8 rfl
  | mviM d8 | inPort d8 | outPort d8 => rw [formOpcode]; exact .d8 rfl
  | alu op src =>
    cases src with
    | reg r => cases op <;> cases r <;> exact .one _
    | mem => cases op <;> exact .one _
    | imm d8 => rw [formOpcode]; cases op <;> exact .d8 rfl
  | lxi p d16 => rw [formOpcode]; cases p <;> exact .a16 rfl
  | dad p | inx p | dcx p => cases p <;> exact .one _
  | stax p | ldax p => cases p <;> exact .one _
  | push p | pop p => cases p <;> exact .one _
  | lda a16 | sta a16 | lhld a16 | shld a16 | jmp a16 | call a16 => rw [formOpcode]; exact .a16 rfl
  | jcond cc a16 | ccond cc a16 => rw [formOpcode]; cases cc <;> exact .a16 rfl
  | rcond cc => cases cc <;> exact .one _
  | rst n => fin_cases n <;> exact .one _
  | _ => exact .one _

/-- The pattern of R63 and the operand bytes decode to the instruction of the fields. -/
theorem decode_formOpcode (f : Form) (rest : List Byte) :
    decode (formOpcode f :: (formOperands f ++ rest)) = .ok (f.instr, rest) :=
  decode_of_cellHolds (cellHolds_formOpcode f) rest

theorem decode_encode (i : Instr) (rest : List Byte) : decode (encode i ++ rest) = .ok (i, rest) := by
  rw [← instr_form i, encode_instr]
  exact decode_formOpcode i.form rest

/-- A pattern with a 16-bit operand, its two bytes in the order they stand in memory. -/
theorem decode_word_operand {f : Form} {b2 b3 : Byte} (hword : formOperands f = [loByte (b3 ++ b2), hiByte (b3 ++ b2)])
    (rest : List Byte) : decode (formOpcode f :: b2 :: b3 :: rest) = .ok (f.instr, rest) := by
  have hdecode := decode_formOpcode f rest
  have hlo : loByte (b3 ++ b2) = b2 := lo_wordOf b3 b2
  have hhi : hiByte (b3 ++ b2) = b3 := hi_wordOf b3 b2
  rwa [hword, hlo, hhi] at hdecode

/-! ### Every cell encodes back -/

/-- The encoder answers, for every instruction of the cell, the opcode byte of the cell and the operand bytes. -/
inductive CellEncodes (op : Byte) : Cell → Prop
  | one {i : Instr} : encode i = [op] → CellEncodes op (.one i)
  | d8 {f : Byte → Instr} : (∀ b2, encode (f b2) = [op, b2]) → CellEncodes op (.d8 f)
  | a16 {f : Word → Instr} : (∀ v, encode (f v) = [op, loByte v, hiByte v]) → CellEncodes op (.a16 f)
  | unassigned : CellEncodes op .unassigned

/-- The opcode map, cell by cell, agrees with the encoding lines of the instruction rules. -/
theorem opcodeCell_encodes (op : Byte) : CellEncodes op (opcodeCell op) := by
  obtain ⟨n⟩ := op
  fin_cases n <;> constructor <;> intros <;> rfl

theorem encode_of_cellHolds {op : Byte} {i : Instr} {operands : List Byte}
    (hcell : CellHolds (opcodeCell op) i operands) : encode i = op :: operands := by
  have hencodes := opcodeCell_encodes op
  generalize opcodeCell op = c at hcell hencodes
  cases hcell with
  | one i => cases hencodes with | one h => exact h
  | d8 hi => cases hencodes with | d8 h => exact hi ▸ h _
  | a16 hi => cases hencodes with | a16 h => exact hi ▸ h _

/-! ### The statements -/

/-- Settles O1, by the fields of the instruction: the encoder writes its pattern, and the opcode map has it there. -/
theorem decodeAfterEncode : Obligations.DecodeAfterEncode := fun i rest _ => decode_encode i rest

/-- Settles O2, by the cell of the first byte: what the cell holds encodes to that byte and the operands. -/
theorem encodeAfterDecode : Obligations.EncodeAfterDecode := by
  intro bytes rest i hdecode
  cases bytes with
  | nil => cases hdecode
  | cons op bytes =>
    obtain ⟨operands, hcell, rfl⟩ := cellHolds_of_decode hdecode
    rw [encode_of_cellHolds hcell, List.cons_append]

/-- Settles O5: each row of the pattern table is a shape of the fields. -/
theorem opcodeBitFields : Obligations.OpcodeBitFields := by
  refine ⟨?mov, ?movRM, ?movMR, ?mvi, ?mviM, ?inr, ?inrM, ?dcr, ?dcrM, ?aluReg, ?aluMem, ?aluImm, ?lxi, ?dad, ?inx,
    ?dcx, ?stax, ?ldax, ?push, ?pop, ?pushPsw, ?popPsw, ?jcond, ?ccond, ?rcond, ?rst, ?fixed⟩
  case mov => exact fun dst src => decode_formOpcode (.mov dst src)
  case movRM => exact fun dst => decode_formOpcode (.movRM dst)
  case movMR => exact fun src => decode_formOpcode (.movMR src)
  case mvi => exact fun dst b2 => decode_formOpcode (.mvi dst b2)
  case mviM => exact fun b2 => decode_formOpcode (.mviM b2)
  case inr => exact fun dst => decode_formOpcode (.inr dst)
  case inrM => exact decode_formOpcode .inrM
  case dcr => exact fun dst => decode_formOpcode (.dcr dst)
  case dcrM => exact decode_formOpcode .dcrM
  case aluReg => exact fun op src => decode_formOpcode (.alu op (.reg src))
  case aluMem => exact fun op => decode_formOpcode (.alu op .mem)
  case aluImm => exact fun op b2 => decode_formOpcode (.alu op (.imm b2))
  case lxi => exact fun p b2 b3 => decode_word_operand (f := .lxi p (b3 ++ b2)) rfl
  case dad => exact fun p => decode_formOpcode (.dad p)
  case inx => exact fun p => decode_formOpcode (.inx p)
  case dcx => exact fun p => decode_formOpcode (.dcx p)
  case stax => exact fun p => decode_formOpcode (.stax p)
  case ldax => exact fun p => decode_formOpcode (.ldax p)
  case push => exact fun p => decode_formOpcode (.push p)
  case pop => exact fun p => decode_formOpcode (.pop p)
  case pushPsw => exact decode_formOpcode .pushPsw
  case popPsw => exact decode_formOpcode .popPsw
  case jcond => exact fun cc b2 b3 => decode_word_operand (f := .jcond cc (b3 ++ b2)) rfl
  case ccond => exact fun cc b2 b3 => decode_word_operand (f := .ccond cc (b3 ++ b2)) rfl
  case rcond => exact fun cc => decode_formOpcode (.rcond cc)
  case rst => exact fun n => decode_formOpcode (.rst n)
  case fixed =>
    intro b2 b3 rest
    exact ⟨decode_formOpcode .nop rest, decode_formOpcode .rlc rest, decode_formOpcode .rrc rest,
      decode_formOpcode .ral rest, decode_formOpcode .rar rest,
      decode_word_operand (f := .shld (b3 ++ b2)) rfl rest, decode_formOpcode .daa rest,
      decode_word_operand (f := .lhld (b3 ++ b2)) rfl rest, decode_formOpcode .cma rest,
      decode_word_operand (f := .sta (b3 ++ b2)) rfl rest, decode_formOpcode .stc rest,
      decode_word_operand (f := .lda (b3 ++ b2)) rfl rest, decode_formOpcode .cmc rest,
      decode_formOpcode .hlt rest, decode_word_operand (f := .jmp (b3 ++ b2)) rfl rest,
      decode_formOpcode .ret rest, decode_word_operand (f := .call (b3 ++ b2)) rfl rest,
      decode_formOpcode (.outPort b2) rest, decode_formOpcode (.inPort b2) rest, decode_formOpcode .xthl rest,
      decode_formOpcode .pchl rest, decode_formOpcode .xchg rest, decode_formOpcode .di rest,
      decode_formOpcode .sphl rest, decode_formOpcode .ei rest⟩

/-- Settles O6: the words are what the encoder writes for these instructions. -/
theorem sampleWordsDecode : Obligations.SampleWordsDecode :=
  ⟨decode_encode (.lda 0x1234) [], decode_encode .rst3 [], decode_encode (.call 0x0018) [],
    decode_encode (.lxiSP 0xF000) [], decode_encode .xchg [], decode_encode (.adi 0x01) [], decode_encode .daa [],
    decode_encode .dadB [], decode_encode .rar [], decode_encode (.jnz 0x1234) [], decode_encode (.inPort 0x01) []⟩

end Sys2Proof.Proofs

/-! ### What every instruction completes with and keeps: O25 -/

namespace Sys2Proof.Proofs

open Sys2Proof Sys2Proof.Machine Sys2Proof.Laws

/-! ### The operations that branch, each as one update of the state -/

/-- CMP is the operation that does not write A (R83, R150). -/
theorem aluOperate_eq (op : AluOp) (o : Operand) (s : State) :
    aluOperate op o s =
      .next { (if aluKeepsA op then s
                else s.setReg .a (aluCompute s.board.variant op s.flags (s.reg .a) (s.operand o)).1) with
        flags := (aluCompute s.board.variant op s.flags (s.reg .a) (s.operand o)).2 } := by
  unfold aluOperate
  split <;> rfl

/-- Not to jump is to write PC with what it holds (R94). -/
theorem jumpIf_eq (cc : Cond) (a16 : Word) (s : State) :
    jumpIf cc a16 s = .next { s with pc := if condHolds cc s.flags then a16 else s.pc } := by
  unfold jumpIf
  split <;> rfl

theorem callIf_eq (cc : Cond) (a16 : Word) (s : State) :
    callIf cc a16 s = .next (if condHolds cc s.flags then s.callTo a16 else s) := by
  unfold callIf
  split <;> rfl

theorem returnIf_eq (cc : Cond) (s : State) :
    returnIf cc s = .next (if condHolds cc s.flags then s.ret else s) := by
  unfold returnIf
  split <;> rfl

/-- The byte that IN receives: the answer that is ready, else a free value (D19, log 8). -/
def inputByte (s : State) (port : Byte) : Byte := s.ioIn.headD (Config.ioByte s.tick s.output port)

/-- `x[A] <- IoRead(B2)` (R210): no answer is left over where none was ready. -/
theorem execInPort_eq (port : Byte) (s : State) :
    execInPort port s = .next { s.setReg .a (inputByte s port) with ioIn := s.ioIn.tail } := by
  unfold execInPort inputByte
  split
  case h_1 v rest hready => rw [hready]; rfl
  case h_2 hnone => rw [hnone]; exact congrArg _ (by simp [State.setReg, hnone])

/-! ### A frame that all operations have -/

/-- The parts of the state that an operation keeps: the control state, the board, the boundaries to come, the index
of the draws, the outputs there already are, the canonical form of memory and what it holds outside RAM. -/
structure OperationFrame (s t : State) : Prop where
  inte : t.inte = s.inte
  eiPend : t.eiPend = s.eiPend
  halted : t.halted = s.halted
  board : t.board = s.board
  schedule : t.schedule = s.schedule
  tick : t.tick = s.tick
  output : s.output <+: t.output
  mem_wf : s.mem.wf → t.mem.wf
  mem_notRam : s.mem.wf → ∀ x, s.memKind x ≠ .ram → t.mem.read x.toNat = s.mem.read x.toNat

theorem OperationFrame.refl (s : State) : OperationFrame s s :=
  ⟨rfl, rfl, rfl, rfl, rfl, rfl, List.prefix_rfl, id, fun _ _ _ => rfl⟩

theorem OperationFrame.trans {s t u : State} (hst : OperationFrame s t) (htu : OperationFrame t u) :
    OperationFrame s u where
  inte := htu.inte.trans hst.inte
  eiPend := htu.eiPend.trans hst.eiPend
  halted := htu.halted.trans hst.halted
  board := htu.board.trans hst.board
  schedule := htu.schedule.trans hst.schedule
  tick := htu.tick.trans hst.tick
  output := hst.output.trans htu.output
  mem_wf h := htu.mem_wf (hst.mem_wf h)
  mem_notRam h x hx :=
    (htu.mem_notRam (hst.mem_wf h) x (by rwa [memKind_congr s t hst.board])).trans (hst.mem_notRam h x hx)

/-- An update that touches neither the control state nor memory. -/
theorem operationFrame_of_mem_eq {s t : State} (hcontrol : SameControl s t) (hmem : t.mem = s.mem)
    (houtput : s.output <+: t.output) : OperationFrame s t := by
  obtain ⟨hinte, heiPend, hhalted, hboard, hschedule, _, htick⟩ := hcontrol
  exact ⟨hinte, heiPend, hhalted, hboard, hschedule, htick, houtput, fun h => hmem ▸ h, fun _ _ _ => by rw [hmem]⟩

theorem frame_setReg (s : State) (r : Reg) (v : Byte) : OperationFrame s (s.setReg r v) :=
  operationFrame_of_mem_eq (setReg_sameControl s r v) (setReg_mem s r v) (by rw [setReg_output])

theorem frame_setPair (s : State) (p : Pair) (v : Word) : OperationFrame s (s.setPair p v) :=
  (frame_setReg s _ _).trans (frame_setReg _ _ _)

theorem frame_withFlags (s : State) (f : Flags) : OperationFrame s { s with flags := f } :=
  operationFrame_of_mem_eq ⟨rfl, rfl, rfl, rfl, rfl, rfl, rfl⟩ rfl List.prefix_rfl

theorem frame_withSp (s : State) (v : Word) : OperationFrame s { s with sp := v } :=
  operationFrame_of_mem_eq ⟨rfl, rfl, rfl, rfl, rfl, rfl, rfl⟩ rfl List.prefix_rfl

theorem frame_withPc (s : State) (v : Word) : OperationFrame s { s with pc := v } :=
  operationFrame_of_mem_eq (withPc_sameControl s v) rfl List.prefix_rfl

theorem frame_withIoIn (s : State) (l : List Byte) : OperationFrame s { s with ioIn := l } :=
  ⟨rfl, rfl, rfl, rfl, rfl, rfl, List.prefix_rfl, id, fun _ _ _ => rfl⟩

theorem frame_withOutput (s : State) (e : BusEvent) : OperationFrame s { s with output := s.output ++ [e] } :=
  operationFrame_of_mem_eq ⟨rfl, rfl, rfl, rfl, rfl, rfl, rfl⟩ rfl (List.prefix_append _ _)

theorem frame_setPairSp (s : State) (p : PairSp) (v : Word) : OperationFrame s (s.setPairSp p v) := by
  cases p with
  | bc | de | hl => exact frame_setPair s _ v
  | sp => exact frame_withSp s v

theorem frame_store (s : State) (x : Word) (v : Byte) : OperationFrame s (s.store x v) where
  inte := store_inte s x v
  eiPend := store_eiPend s x v
  halted := store_halted s x v
  board := store_board s x v
  schedule := store_schedule s x v
  tick := store_tick s x v
  output := store_output_prefix s x v
  mem_wf h := store_wf s h x v
  mem_notRam h y hy := store_read_notRam s h x v y hy

theorem frame_store16 (s : State) (x v : Word) : OperationFrame s (s.store16 x v) :=
  (frame_store s _ _).trans (frame_store _ _ _)

theorem frame_push (s : State) (hi lo : Byte) : OperationFrame s (s.push hi lo) :=
  ((frame_store s _ _).trans (frame_store _ _ _)).trans (frame_withSp _ _)

theorem frame_callTo (s : State) (x : Word) : OperationFrame s (s.callTo x) :=
  (frame_push s _ _).trans (frame_withPc _ _)

theorem frame_ret (s : State) : OperationFrame s s.ret := (frame_withSp s _).trans (frame_withPc _ _)

/-- `INTE <- 0` (R163). -/
theorem exec_di (s : State) : exec .di s = .next { s with inte := false } := exec_instr .di s

/-- `EI_PEND <- 1` (R164). -/
theorem exec_ei (s : State) : exec .ei s = .next { s with eiPend := true } := exec_instr .ei s

/-- The instructions that write the control state: HLT, DI and EI (R162 to R164). -/
def writesControl : Form → Bool
  | .hlt | .di | .ei => true
  | _ => false

/-- Every other instruction completes and keeps the frame. -/
theorem execForm_frame (f : Form) (hf : writesControl f = false) (s : State) :
    ∃ t, execForm f s = .next t ∧ OperationFrame s t := by
  cases f with
  | hlt | di | ei => cases hf
  | mov _ _ | movRM _ | mvi _ _ | ldax _ | lda _ | cma => exact ⟨_, rfl, frame_setReg ..⟩
  | movMR _ | mviM _ | stax _ | sta _ => exact ⟨_, rfl, frame_store ..⟩
  | shld a16 => exact ⟨_, rfl, frame_store16 ..⟩
  | lhld a16 => exact ⟨_, rfl, frame_setPair ..⟩
  | xchg => exact ⟨_, rfl, (frame_setPair ..).trans (frame_setPair ..)⟩
  | xthl => exact ⟨_, rfl, (frame_store16 ..).trans (frame_setPair ..)⟩
  | lxi _ _ | inx _ | dcx _ => exact ⟨_, rfl, frame_setPairSp ..⟩
  | sphl => exact ⟨_, rfl, frame_withSp ..⟩
  | push _ | pushPsw => exact ⟨_, rfl, frame_push ..⟩
  | pop p => exact ⟨_, rfl, (frame_setPair ..).trans (frame_withSp ..)⟩
  | popPsw => exact ⟨_, rfl, ((frame_setReg ..).trans (frame_withSp ..)).trans (frame_withFlags ..)⟩
  | alu op src =>
    refine ⟨_, aluOperate_eq op src s, .trans ?_ (frame_withFlags ..)⟩
    split
    · exact .refl s
    · exact frame_setReg ..
  | inr _ | dcr _ | daa | rlc | ral | rrc | rar => exact ⟨_, rfl, (frame_setReg ..).trans (frame_withFlags ..)⟩
  | inrM | dcrM => exact ⟨_, rfl, (frame_store ..).trans (frame_withFlags ..)⟩
  | dad p => exact ⟨_, rfl, (frame_setPair ..).trans (frame_withFlags ..)⟩
  | cmc | stc => exact ⟨_, rfl, frame_withFlags ..⟩
  | nop => exact ⟨_, rfl, .refl s⟩
  | jmp a16 => exact ⟨_, rfl, frame_withPc ..⟩
  | jcond cc a16 => exact ⟨_, jumpIf_eq cc a16 s, frame_withPc ..⟩
  | pchl => exact ⟨_, rfl, frame_withPc ..⟩
  | call _ | rst _ => exact ⟨_, rfl, frame_callTo ..⟩
  | ccond cc a16 =>
    refine ⟨_, callIf_eq cc a16 s, ?_⟩
    split
    · exact frame_callTo s a16
    · exact .refl s
  | ret => exact ⟨_, rfl, frame_ret s⟩
  | rcond cc =>
    refine ⟨_, returnIf_eq cc s, ?_⟩
    split
    · exact frame_ret s
    · exact .refl s
  | inPort port => exact ⟨_, execInPort_eq port s, (frame_setReg ..).trans (frame_withIoIn ..)⟩
  | outPort port => exact ⟨_, rfl, frame_withOutput ..⟩

/-- The state with the control state that the instruction leaves: HLT sets HALTED, DI clears INTE, EI sets EI_PEND,
and no other instruction writes any of them (R26 to R28). -/
def controlAfter (i : Instr) (s : State) : State :=
  { s with
    inte := s.inte && !cancelsEi i
    eiPend := s.eiPend || decide (i = .ei)
    halted := s.halted || decide (i = .hlt) }

theorem controlAfter_of_not_writes {i : Instr} (hi : writesControl i.form = false) (s : State) :
    controlAfter i s = s := by
  have hdi : i ≠ .di := by rintro rfl; cases hi
  have hei : i ≠ .ei := by rintro rfl; cases hi
  have hhlt : i ≠ .hlt := by rintro rfl; cases hi
  simp [controlAfter, cancelsEi, hdi, hei, hhlt]

theorem controlAfter_hlt (s : State) : controlAfter .hlt s = { s with halted := true } := by
  simp [controlAfter, cancelsEi]

theorem controlAfter_di (s : State) : controlAfter .di s = { s with inte := false } := by
  simp [controlAfter, cancelsEi]

theorem controlAfter_ei (s : State) : controlAfter .ei s = { s with eiPend := true } := by
  simp [controlAfter, cancelsEi]

/-- Everything that holds of every instruction: it completes, and but for the control state it keeps the frame. -/
theorem exec_frame (i : Instr) (s : State) : ∃ t, exec i s = .next t ∧ OperationFrame (controlAfter i s) t := by
  cases hf : writesControl i.form with
  | false =>
    rw [controlAfter_of_not_writes hf, exec_eq_execForm]
    exact execForm_frame i.form hf s
  | true =>
    have hi : i = .hlt ∨ i = .di ∨ i = .ei := by
      rw [← instr_form i]
      generalize i.form = f at hf
      cases f with
      | hlt => exact .inl rfl
      | di => exact .inr (.inl rfl)
      | ei => exact .inr (.inr rfl)
      | _ => cases hf
    rcases hi with rfl | rfl | rfl
    · exact ⟨_, exec_hlt s, controlAfter_hlt s ▸ .refl _⟩
    · exact ⟨_, exec_di s, controlAfter_di s ▸ .refl _⟩
    · exact ⟨_, exec_ei s, controlAfter_ei s ▸ .refl _⟩

/-- The frame, of whatever an instruction answers. -/
theorem frame_of_exec {i : Instr} {s t : State} (hexec : exec i s = .next t) : OperationFrame (controlAfter i s) t := by
  obtain ⟨u, hu, hframe⟩ := exec_frame i s
  rw [hexec] at hu
  cases hu
  exact hframe

/-! ### The statement -/

/-- Settles O25: the frame of every instruction. -/
theorem everyInstructionCompletes : Obligations.EveryInstructionCompletes := by
  intro i s
  obtain ⟨t, hexec, hframe⟩ := exec_frame i s
  exact ⟨t, hexec, hframe.board, hframe.schedule, hframe.tick⟩

end Sys2Proof.Proofs

/-! ### What one step keeps and changes: O18, O19, O20, O21 and O22 -/

namespace Sys2Proof.Proofs

open Sys2Proof Sys2Proof.Machine Sys2Proof.Laws

/-! ### The four kinds of step, each with what it does to the parts that the statements speak of -/

theorem decode_of_fetch {s : State} {i : Instr} {len : Nat} (hfetch : s.fetch = .ok (i, len)) :
    ∃ rest, decode s.fetchBytes = .ok (i, rest) := by
  unfold State.fetch at hfetch
  split at hfetch
  case h_1 j rest hdecode => cases hfetch; exact ⟨rest, hdecode⟩
  case h_2 => cases hfetch

/-- The acceptance of an interrupt keeps the frame of an operation, but for INTE and HALTED (R224). -/
theorem frame_acceptInterrupt (s : State) (n : Fin 8) :
    OperationFrame { s with inte := false, halted := false } (s.acceptInterrupt n) := frame_callTo _ _

/-- What holds of the state before every instruction, interrupt and reset alike, still holds after it. -/
structure StepFrame (s t : State) : Prop where
  board : t.board = s.board
  output : s.output <+: t.output
  mem_wf : s.mem.wf → t.mem.wf
  mem_notRam : s.mem.wf → ∀ x, s.memKind x ≠ .ram → t.mem.read x.toNat = s.mem.read x.toNat

/-- An instruction as the step cycle runs it: what it leaves of the control state (R70 clause 4, R162 to R164), and
the frame. -/
theorem instr_step_spec {s u : State} {i : Instr} {len : Nat} (hexec : exec i (s.beginInstr len) = .next u) :
    (u.endInstr s.eiPend i).inte = ((s.inte || s.eiPend) && !cancelsEi i) ∧
      (u.endInstr s.eiPend i).eiPend = decide (i = .ei) ∧
      (u.endInstr s.eiPend i).halted = (s.halted || decide (i = .hlt)) ∧
      StepFrame s (u.endInstr s.eiPend i) := by
  have hframe := frame_of_exec hexec
  have hinte : u.inte = (s.inte && !cancelsEi i) := hframe.inte
  have heiPend : u.eiPend = (false || decide (i = .ei)) := hframe.eiPend
  refine ⟨?_, heiPend.trans (Bool.false_or _), hframe.halted, ⟨hframe.board, hframe.output, hframe.mem_wf,
    hframe.mem_notRam⟩⟩
  rw [endInstr_inte, hinte, Bool.and_or_distrib_right]

/-- Every step keeps the board, the outputs there are, and what memory holds outside RAM. -/
theorem step_frame {s t : State} (hstep : step s = .next t) : StepFrame s t := by
  rcases step_cases hstep with ⟨_, rfl⟩ | ⟨_, n, _, rfl⟩ | ⟨_, _, _, rfl⟩ | ⟨_, _, _, i, len, u, _, hexec, rfl⟩
  · -- the reset signal
    exact ⟨rfl, List.prefix_rfl, id, fun _ _ _ => rfl⟩
  · -- an accepted interrupt
    have hframe := frame_acceptInterrupt s.passBoundary n
    exact ⟨hframe.board, hframe.output, hframe.mem_wf, hframe.mem_notRam⟩
  · -- a halted CPU
    exact ⟨rfl, List.prefix_rfl, id, fun _ _ _ => rfl⟩
  · -- an instruction
    obtain ⟨_, _, _, hframe⟩ := instr_step_spec hexec
    exact hframe

/-! ### The statements -/

/-- Settles O18: memory stays canonical in every step, and a halted machine has either been halted before, when the
step passed the boundary only, or has run HLT, which is not EI. -/
theorem stepKeepsInvariant : Obligations.StepKeepsInvariant := by
  rintro s t ⟨hwf, hpend⟩ hstep
  refine ⟨(step_frame hstep).mem_wf hwf, fun hhalted => ?_⟩
  rcases step_cases hstep with ⟨_, rfl⟩ | ⟨_, n, _, rfl⟩ | ⟨_, _, _, rfl⟩ | ⟨_, _, hrun, i, len, u, _, hexec, rfl⟩
  · -- the reset signal
    rfl
  · -- an accepted interrupt
    rw [nextTick_halted, acceptInterrupt_halted] at hhalted
    cases hhalted
  · -- a halted CPU
    exact hpend hhalted
  · -- an instruction
    obtain ⟨_, hpend', hhalted', _⟩ := instr_step_spec hexec
    rw [hhalted', hrun] at hhalted
    have hhlt : i = .hlt := by simpa using hhalted
    rw [hpend', hhlt]
    rfl

/-- Settles O19: the frame of a step. -/
theorem stepKeepsBoardAndOutputs : Obligations.StepKeepsBoardAndOutputs := fun _ _ hstep =>
  ⟨(step_frame hstep).board, (step_frame hstep).output⟩

/-- Settles O20: no step changes what memory holds at an address that is not RAM, and ROM answers what it holds. -/
theorem romKeepsItsBytes : Obligations.RomKeepsItsBytes := by
  intro s t hwf hstep why x hrom
  have hframe := step_frame hstep
  have hrom' : t.memKind x = .rom := (memKind_congr s t hframe.board x).trans hrom
  refine ⟨hrom', ?_⟩
  rw [load_of_holdsByte t why x (holdsByte_of_rom t x hrom'), load_of_holdsByte s why x (holdsByte_of_rom s x hrom)]
  exact hframe.mem_notRam hwf x (by simp [hrom])

/-- Settles O21: INTE is constant but for the reset signal, an accepted interrupt, a pending EI and DI. -/
theorem inteChangesOnlyAsStated : Obligations.InteChangesOnlyAsStated := by
  intro s t hstep
  rcases step_cases hstep with ⟨hreset, rfl⟩ | ⟨_, n, haccept, rfl⟩ | ⟨_, _, _, rfl⟩ |
    ⟨hreset, haccept, hrun, i, len, u, hfetch, hexec, rfl⟩
  · -- the reset signal
    exact ⟨fun _ h => (by cases h), fun _ _ => .inl hreset⟩
  · -- an accepted interrupt
    refine ⟨fun _ h => ?_, fun _ _ => .inr (.inl ⟨n, haccept⟩)⟩
    rw [nextTick_inte, acceptInterrupt_inte] at h
    cases h
  · -- a halted CPU
    rw [passBoundary_inte]
    exact ⟨fun h0 h1 => (by rw [h0] at h1; cases h1), fun h1 h0 => (by rw [h1] at h0; cases h0)⟩
  · -- an instruction
    obtain ⟨hinte, _, _, _⟩ := instr_step_spec hexec
    obtain ⟨rest, hdecode⟩ := decode_of_fetch hfetch
    have hready : s.readyToFetch := ⟨hreset, haccept, hrun⟩
    rw [hinte]
    refine ⟨fun h0 h1 => ?set, fun h1 h0 => ?cleared⟩
    case set =>
      obtain ⟨hpend, hi⟩ : s.eiPend = true ∧ i ≠ .di := by simpa [h0, cancelsEi] using h1
      exact ⟨hpend, hready, i, rest, hdecode, hi⟩
    case cleared =>
      have hi : i = .di := by simpa [h1, cancelsEi] using h0
      exact .inr (.inr ⟨hready, rest, hi ▸ hdecode⟩)

/-- Settles O22: HALTED is constant but for the reset signal, an accepted interrupt and HLT. -/
theorem haltedChangesOnlyAsStated : Obligations.HaltedChangesOnlyAsStated := by
  intro s t hstep
  rcases step_cases hstep with ⟨hreset, rfl⟩ | ⟨_, n, haccept, rfl⟩ | ⟨_, _, hhalted, rfl⟩ |
    ⟨hreset, haccept, hrun, i, len, u, hfetch, hexec, rfl⟩
  · -- the reset signal
    exact ⟨fun _ h => (by cases h), fun _ _ => .inl hreset⟩
  · -- an accepted interrupt
    refine ⟨fun _ h => ?_, fun _ _ => .inr ⟨n, haccept⟩⟩
    rw [nextTick_halted, acceptInterrupt_halted] at h
    cases h
  · -- a halted CPU
    rw [passBoundary_halted, hhalted]
    exact ⟨fun h => (by cases h), fun _ h => by cases h⟩
  · -- an instruction
    obtain ⟨_, _, hhalted, _⟩ := instr_step_spec hexec
    obtain ⟨rest, hdecode⟩ := decode_of_fetch hfetch
    rw [hhalted, hrun]
    refine ⟨fun _ h => ?_, fun h => by cases h⟩
    have hi : i = .hlt := by simpa using h
    exact ⟨⟨hreset, haccept, hrun⟩, rest, hi ▸ hdecode⟩

end Sys2Proof.Proofs

/-! ### The step cycle (30_encoding.md section 7, 60_exceptions.md): O7 to O13, O15, O16 and O17 -/

namespace Sys2Proof.Proofs

open Sys2Proof Sys2Proof.Machine Sys2Proof.Laws

/-! ### The bytes that a fetch reads -/

theorem opLength_pos (op : Byte) : 0 < opLength op := by
  unfold opLength
  split
  · exact Nat.succ_pos _
  · split <;> exact Nat.succ_pos _

theorem length_fetchBytes (s : State) : s.fetchBytes.length = opLength (s.load .fetch s.pc) := by
  simp [State.fetchBytes]

/-- The first byte that is read is the one at PC (R70 clause 3). -/
theorem fetchBytes_eq_cons (s : State) : ∃ operands, s.fetchBytes = s.load .fetch s.pc :: operands := by
  obtain ⟨n, hn⟩ := Nat.exists_eq_succ_of_ne_zero (opLength_pos (s.load .fetch s.pc)).ne'
  refine ⟨(List.range n).map fun k => s.load .fetch (s.pc + BitVec.ofNat 16 (k + 1)), ?_⟩
  simp [State.fetchBytes, hn, List.range_succ_eq_map, Function.comp_def]

/-- As many bytes as the opcode needs decode, if it is assigned: the fetch never reads too few (R62, R67). -/
theorem decode_of_assigned {op : Byte} {operands : List Byte} (hassigned : op ∉ unassignedOpcodes)
    (hlength : (op :: operands).length = opLength op) : ∃ i, decode (op :: operands) = .ok (i, []) := by
  have hcell := cellLength_opcodeCell op
  rw [if_neg hassigned, ← hlength] at hcell
  cases hc : opcodeCell op with
  | one i =>
    obtain rfl : operands = [] := by simpa [hc, cellLength] using hcell
    exact ⟨i, by simp [decode, hc]⟩
  | d8 f =>
    have hone : operands.length = 1 := by simpa [hc, cellLength, eq_comm] using hcell
    obtain ⟨b2, rfl⟩ := List.length_eq_one_iff.1 hone
    exact ⟨f b2, by simp [decode, hc]⟩
  | a16 f =>
    have htwo : operands.length = 2 := by simpa [hc, cellLength, eq_comm] using hcell
    obtain ⟨b2, b3, rfl⟩ := List.length_eq_two.1 htwo
    exact ⟨f (wordOf b3 b2), by simp [decode, hc]⟩
  | unassigned => simp [hc, cellLength] at hcell

theorem fetch_of_decode {s : State} {i : Instr} {rest : List Byte} (hdecode : decode s.fetchBytes = .ok (i, rest)) :
    s.fetch = .ok (i, s.fetchBytes.length) := by
  simp only [State.fetch, hdecode]

/-- A fetch faults exactly on an unassigned byte (R68, D5). -/
theorem fetch_eq_error_iff (s : State) (op : Byte) :
    s.fetch = .error op ↔ op = s.load .fetch s.pc ∧ s.load .fetch s.pc ∈ unassignedOpcodes := by
  obtain ⟨operands, hbytes⟩ := fetchBytes_eq_cons s
  have hlength := length_fetchBytes s
  rw [hbytes] at hlength
  by_cases hop : s.load .fetch s.pc ∈ unassignedOpcodes
  · have hdecode : decode s.fetchBytes = .error (.unassigned (s.load .fetch s.pc)) := by
      rw [hbytes, decode_cons_eq_unassigned_iff, cellLength_opcodeCell_eq_none_iff]
      exact hop
    simp [State.fetch, hdecode, hop, eq_comm]
  · obtain ⟨i, hdecode⟩ := decode_of_assigned hop hlength
    rw [← hbytes] at hdecode
    simp [fetch_of_decode hdecode, hop]

/-- The bytes of the encoding of an instruction, at PC and the addresses after it, are what the fetch reads (R62). -/
theorem fetchBytes_eq_encode {s : State} {i : Instr}
    (hbytes : ∀ k (h : k < (encode i).length), s.load .fetch (s.pc + BitVec.ofNat 16 k) = (encode i)[k]) :
    s.fetchBytes = encode i := by
  obtain ⟨op, operands, hencode⟩ : ∃ op operands, encode i = op :: operands :=
    ⟨_, _, instr_form i ▸ encode_instr i.form⟩
  have hop : s.load .fetch s.pc = op := by
    have hfirst := hbytes 0 (by simp [hencode])
    simpa [hencode] using hfirst
  have hlength : (encode i).length = opLength op := by
    have hdecode := decode_encode i []
    rw [List.append_nil, hencode] at hdecode
    rw [hencode]
    simpa using length_of_decode_cons hdecode
  refine List.ext_getElem ?_ fun k hk hk' => ?_
  · rw [length_fetchBytes, hop, hlength]
  · rw [← hbytes k hk']
    simp [State.fetchBytes]

/-! ### The step of an instruction -/

/-- A step that decodes an instruction is its operation between the beginning and the end of the step cycle (R70). -/
theorem step_of_decode {s : State} {i : Instr} {rest : List Byte} (hready : s.readyToFetch)
    (hdecode : decode s.fetchBytes = .ok (i, rest)) :
    ∃ u, exec i (s.beginInstr s.fetchBytes.length) = .next u ∧ step s = .next (u.endInstr s.eiPend i) := by
  obtain ⟨u, hexec, _⟩ := exec_frame i (s.beginInstr s.fetchBytes.length)
  refine ⟨u, hexec, ?_⟩
  rw [step_of_fetch hready (fetch_of_decode hdecode), hexec]

theorem endInstr_eq (s : State) (pending : Bool) (i : Instr) :
    s.endInstr pending i = { s with inte := s.inte || (pending && decide (i ≠ .di)), tick := s.tick + 1 } := by
  simp [State.endInstr, cancelsEi, State.nextTick]

/-- A step without reset, without an acceptable interrupt and not halted is clauses 3 and 4 of R70. -/
theorem step_of_ready {s : State} (hready : s.readyToFetch) : step s = s.runInstr := by
  obtain ⟨hreset, haccept, hrun⟩ := hready
  simp only [step, hreset, haccept, hrun, Bool.false_eq_true, if_false]

theorem runInstr_of_fetch_error {s : State} {op : Byte} (hfetch : s.fetch = .error op) :
    s.runInstr = .fault (.illegalOpcode op) := by
  simp only [State.runInstr, hfetch]

/-- No instruction stops the machine: an instruction that is fetched completes (D20). -/
theorem runInstr_of_fetch_ok {s : State} {i : Instr} {len : Nat} (hfetch : s.fetch = .ok (i, len)) :
    ∃ t, s.runInstr = .next t := by
  obtain ⟨u, hexec, _⟩ := exec_frame i (s.beginInstr len)
  exact ⟨u.endInstr s.eiPend i, by simp only [State.runInstr, hfetch, hexec]⟩

/-- A requester that supplies another instruction than RST n is refused (R224, U9). -/
theorem step_of_acceptable_other {s : State} {code : List Byte} (haccept : s.acceptable = some (.other code)) :
    step s = .refused (.interruptNotRst code) := by
  obtain ⟨_, _, hreset, _⟩ := acceptable_some haccept
  simp only [step, hreset, haccept, Bool.false_eq_true, if_false]

/-- The two ways a step stops: the refusal of a requester, and the fetch of an unassigned byte. -/
theorem step_stops {s : State} (hstop : ∀ t, step s ≠ .next t) :
    (∃ code, s.acceptable = some (.other code)) ∨ (s.readyToFetch ∧ ∃ op, s.fetch = .error op) := by
  cases hreset : s.pins.reset with
  | true => exact absurd (step_of_reset hreset) (hstop _)
  | false =>
    cases haccept : s.acceptable with
    | some x =>
      cases x with
      | rst n => exact absurd (step_of_acceptable_rst haccept) (hstop _)
      | other code => exact .inl ⟨code, rfl⟩
    | none =>
      cases hhalted : s.halted with
      | true => exact absurd (step_of_halted hreset haccept hhalted) (hstop _)
      | false =>
        have hready : s.readyToFetch := ⟨hreset, haccept, hhalted⟩
        cases hfetch : s.fetch with
        | error op => exact .inr ⟨hready, op, rfl⟩
        | ok x =>
          obtain ⟨t, ht⟩ := runInstr_of_fetch_ok (i := x.1) (len := x.2) hfetch
          exact absurd ((step_of_ready hready).trans ht) (hstop t)

/-! ### The statements on fetching -/

/-- Settles O7: the operation between the beginning and the end of the step cycle, written out. -/
theorem stepRunsDecodedInstruction : Obligations.StepRunsDecodedInstruction := by
  intro s i rest hready hdecode _
  obtain ⟨u, hexec, hstep⟩ := step_of_decode hready hdecode
  have hexec' : exec i { s with
      schedule := s.schedule.tail
      pc := s.pc + BitVec.ofNat 16 s.fetchBytes.length
      eiPend := false } = .next u := hexec
  rw [hstep, hexec', endInstr_eq]

/-- Settles O8: the fetch reads the bytes of the encoding, and they decode to the instruction. -/
theorem stepRunsInstructionAtPc : Obligations.StepRunsInstructionAtPc := by
  intro s i hready hbytes
  have hfetched := fetchBytes_eq_encode hbytes
  have hdecode : decode s.fetchBytes = .ok (i, []) := by
    rw [hfetched, ← List.append_nil (encode i)]
    exact decode_encode i []
  rw [← hfetched]
  exact stepRunsDecodedInstruction s i [] hready hdecode trivial

/-- Settles O9: a fetch faults exactly on an unassigned byte, and an instruction that is fetched completes. -/
theorem onlyUnassignedOpcodesFault : Obligations.OnlyUnassignedOpcodesFault := by
  refine ⟨?faults, ?only_fault, ?only_refusal⟩
  case faults =>
    intro s hready hop
    rw [step_of_ready hready]
    exact runInstr_of_fetch_error ((fetch_eq_error_iff s _).2 ⟨rfl, hop⟩)
  case only_fault =>
    intro s f hfault
    rcases step_stops (s := s) (by simp [hfault]) with ⟨code, haccept⟩ | ⟨hready, op, hfetch⟩
    · rw [step_of_acceptable_other haccept] at hfault
      cases hfault
    · rw [step_of_ready hready, runInstr_of_fetch_error hfetch] at hfault
      obtain ⟨rfl, hop⟩ := (fetch_eq_error_iff s op).1 hfetch
      cases hfault
      exact ⟨hready, hop, rfl⟩
  case only_refusal =>
    intro s r hrefused
    rcases step_stops (s := s) (by simp [hrefused]) with ⟨code, haccept⟩ | ⟨hready, op, hfetch⟩
    · rw [step_of_acceptable_other haccept] at hrefused
      cases hrefused
      exact ⟨code, haccept, rfl⟩
    · rw [step_of_ready hready, runInstr_of_fetch_error hfetch] at hrefused
      cases hrefused

/-! ### Reset -/

/-- Settles O10: the state after reset is written out in the model. -/
theorem resetState : Obligations.ResetState := ⟨rfl, rfl, rfl, rfl⟩

/-- Settles O11: asserted reset comes first at the boundary, and the reset signal writes these fields. -/
theorem resetSignal : Obligations.ResetSignal := fun _ hreset =>
  ⟨_, step_of_reset hreset, rfl, rfl, rfl, rfl, rfl, rfl, rfl, rfl, rfl⟩

/-- Settles O17: no byte is listed at reset, and the machine runs. -/
theorem resetMeetsInvariant : Obligations.ResetMeetsInvariant :=
  ⟨⟨fun _ hx => absurd hx List.not_mem_nil, List.Pairwise.nil⟩, fun hhalted => by cases hhalted⟩

/-! ### Interrupts -/

theorem acceptable_of_enabled {s : State} (hinte : s.inte = true) (hpend : s.eiPend = false)
    (hreset : s.pins.reset = false) : s.acceptable = s.pins.int := by
  simp [State.acceptable, hinte, hpend, hreset]

theorem acceptable_of_disabled {s : State} (h : s.inte = false ∨ s.eiPend = true) : s.acceptable = none := by
  rcases h with h | h <;> simp [State.acceptable, h]

theorem toNat_restartAddress (n : Fin 8) : (restartAddress n).toNat = 8 * n.val := by
  have hn := n.isLt
  rw [restartAddress, BitVec.toNat_ofNat]
  omega

/-- What is stored does not depend on the index of the draws: a byte of memory is no free value. -/
theorem storesTwo_nextTick {x y : Word} {v w : Byte} {s t : State} (h : StoresTwo x v y w s t)
    (hboard : t.board = s.board) : StoresTwo x v y w s t.nextTick := by
  have hload : ∀ why z, s.holdsByte z = true → t.nextTick.load why z = t.load why z := fun why z hz => by
    have hz' : t.holdsByte z = true := (holdsByte_congr s t hboard z).trans hz
    rw [load_of_holdsByte t why z hz']
    exact load_of_holdsByte t.nextTick why z hz'
  obtain ⟨hxram, hyram, hxrom, hyrom, houtput, hrest⟩ := h
  refine ⟨fun hx why => ?_, fun hy why => ?_, fun hx why => ?_, fun hy why => ?_, houtput, fun why z hz hn => ?_⟩
  · rw [hload why x (holdsByte_of_ram s x hx), hxram hx why]
  · rw [hload why y (holdsByte_of_ram s y hy), hyram hy why]
  · rw [hload why x (holdsByte_of_rom s x hx), hxrom hx why]
  · rw [hload why y (holdsByte_of_rom s y hy), hyrom hy why]
  · rw [hload why z hz, hrest why z hz hn]

/-- Everything that the acceptance of an interrupt stores (R224). -/
theorem acceptInterrupt_spec (s : State) (hwf : s.mem.wf) (n : Fin 8) :
    StoresTwo (s.sp - 1#16) (hiByte s.pc) (s.sp - 2#16) (loByte s.pc) s
      (s.passBoundary.acceptInterrupt n).nextTick :=
  storesTwo_nextTick (callTo_spec { s.passBoundary with inte := false, halted := false } hwf (restartAddress n))
    (acceptInterrupt_board s.passBoundary n)

/-- Settles O12: the interrupt can be accepted, and its acceptance is a call with INTE and HALTED cleared. -/
theorem interruptAcceptance : Obligations.InterruptAcceptance := by
  intro s n hwf hinte hpend hreset hint
  have haccept : s.acceptable = some (.rst n) := (acceptable_of_enabled hinte hpend hreset).trans hint
  refine ⟨_, step_of_acceptable_rst haccept, ?pc, ?sp, ?inte, ?halted, ?eiPend, ?regs, ?flags, ?board, ?ioIn,
    ?schedule, acceptInterrupt_spec s hwf n⟩
  case pc => simp [toNat_restartAddress]
  case eiPend => simp [hpend]
  all_goals simp

/-- What is asserted at a boundary without reset and without an acceptable interrupt makes no difference to the
instruction that runs there: fetching and executing it reads the boundaries to come only. -/
theorem runInstr_boundary (s : State) (p q : Pins) (later : List Pins) :
    State.runInstr { s with schedule := p :: later } = State.runInstr { s with schedule := q :: later } := rfl

/-- Settles O13: where INT cannot be accepted, the step is that of a boundary where nothing is asserted. -/
theorem intIsIgnoredUnlessAcceptable : Obligations.IntIsIgnoredUnlessAcceptable := by
  refine ⟨?ignored, ?refused⟩
  case ignored =>
    intro s x later hdisabled
    have haccept : ∀ p : Pins, State.acceptable { s with schedule := p :: later } = none := fun p =>
      acceptable_of_disabled (s := { s with schedule := p :: later }) hdisabled
    have hstep : ∀ p : Pins, p.reset = false → step { s with schedule := p :: later } =
        if s.halted then .next { s with schedule := later }
        else State.runInstr { s with schedule := p :: later } := by
      intro p hp
      have hreset : State.pins { s with schedule := p :: later } = p := rfl
      simp only [step, hreset, hp, haccept, Bool.false_eq_true, if_false]
      rfl
    rw [hstep _ rfl, hstep Pins.idle rfl, runInstr_boundary s _ Pins.idle later]
  case refused =>
    intro s code hinte hpend hreset hint
    exact step_of_acceptable_other ((acceptable_of_enabled hinte hpend hreset).trans hint)

/-! ### The end of a run -/

/-- One step of an ended machine passes the boundary and does nothing else (R261). -/
theorem step_of_ended {s : State} (hended : s.ended = true) (hreset : s.pins.reset = false) :
    step s = .next s.passBoundary := by
  obtain ⟨hhalted, hinte⟩ : s.halted = true ∧ s.inte = false := by simpa [State.ended] using hended
  exact step_of_halted hreset (acceptable_of_disabled (.inl hinte)) hhalted

theorem pins_reset_of_schedule {s : State} (hschedule : ∀ p ∈ s.schedule, p.reset = false) :
    s.pins.reset = false := by
  unfold State.pins
  cases hs : s.schedule with
  | nil => rfl
  | cons p later => exact hschedule p (by simp [hs])

theorem run_succ_of_step (M : Host.Core) (k : Nat) {s t : M.State} (hstep : M.step s = .next t) :
    M.run (k + 1) s = M.run k t := by
  rw [Host.Core.run, hstep]

/-- Settles O15, by induction on the number of steps: the boundary that one step passes is the first of those that
are left out. -/
theorem endedRunNeverChanges : Obligations.EndedRunNeverChanges := by
  intro k
  induction k with
  | zero => exact fun s _ _ => rfl
  | succ k ih =>
    intro s hended hschedule
    have hstep := step_of_ended hended (pins_reset_of_schedule hschedule)
    have hrest := ih s.passBoundary hended fun p hp => hschedule p (List.mem_of_mem_tail hp)
    calc Host.Core.run Sys2Proof.core (k + 1) s
      _ = Host.Core.run Sys2Proof.core k s.passBoundary := run_succ_of_step Sys2Proof.core k hstep
      _ = .next { s with schedule := s.schedule.drop (k + 1) } := by
        rw [hrest, passBoundary_schedule, List.drop_tail]
        rfl

/-! ### EI and DI -/

/-- The control state after a step that decodes an instruction. -/
theorem step_control {s : State} {i : Instr} {rest : List Byte} (hready : s.readyToFetch)
    (hdecode : decode s.fetchBytes = .ok (i, rest)) :
    ∃ t, step s = .next t ∧ t.inte = ((s.inte || s.eiPend) && !cancelsEi i) ∧ t.eiPend = decide (i = .ei) := by
  obtain ⟨u, hexec, hstep⟩ := step_of_decode hready hdecode
  obtain ⟨hinte, hpend, _, _⟩ := instr_step_spec hexec
  exact ⟨_, hstep, hinte, hpend⟩

/-- Settles O16: what a step leaves in INTE and EI_PEND, for EI, for the instruction after it, and for DI. -/
theorem eiTakesEffectOneInstructionLate : Obligations.EiTakesEffectOneInstructionLate := by
  refine ⟨?ei, ?after_ei, ?di⟩
  case ei =>
    intro s rest hready hdecode
    obtain ⟨t, hstep, hinte, hpend⟩ := step_control hready hdecode
    refine ⟨t, hstep, hpend, by simpa [cancelsEi] using hinte, fun later => ?_⟩
    exact acceptable_of_disabled (s := { t with schedule := later }) (.inr hpend)
  case after_ei =>
    intro s i rest hready heiPend hdecode hi
    obtain ⟨t, hstep, hinte, hpend⟩ := step_control hready hdecode
    exact ⟨t, hstep, by simpa [heiPend, cancelsEi, hi] using hinte, hpend⟩
  case di =>
    intro s rest hready hdecode
    obtain ⟨t, hstep, hinte, hpend⟩ := step_control hready hdecode
    exact ⟨t, hstep, by simpa [cancelsEi] using hinte, hpend⟩

end Sys2Proof.Proofs

/-! ### Which instructions write SP and the flags (10_state.md sections 3 and 4): O24 and O23 -/

namespace Sys2Proof.Proofs

open Sys2Proof Sys2Proof.Machine Sys2Proof.Laws

/-! ### SP -/

theorem execForm_sp (f : Form) (hf : writesSp f = false) (s : State) :
    ∃ t, execForm f s = .next t ∧ t.sp = s.sp := by
  cases f with
  | sphl | push _ | pushPsw | pop _ | popPsw | call _ | ccond _ _ | ret | rcond _ | rst _ => cases hf
  | mov _ _ | movRM _ | mvi _ _ | ldax _ | lda _ | cma => exact ⟨_, rfl, setReg_sp ..⟩
  | movMR _ | mviM _ | stax _ | sta _ => exact ⟨_, rfl, store_sp ..⟩
  | shld a16 => exact ⟨_, rfl, store16_sp ..⟩
  | lhld a16 => exact ⟨_, rfl, setPair_sp ..⟩
  | xchg => exact ⟨_, rfl, (setPair_sp ..).trans (setPair_sp ..)⟩
  | xthl => exact ⟨_, rfl, (setPair_sp ..).trans (store16_sp ..)⟩
  | lxi p _ | inx p | dcx p =>
    cases p with
    | sp => cases hf
    | bc | de | hl => exact ⟨_, rfl, setPair_sp ..⟩
  | alu op src =>
    refine ⟨_, aluOperate_eq op src s, ?_⟩
    show (ite _ _ _ : State).sp = s.sp
    split
    · rfl
    · exact setReg_sp ..
  | inr _ | dcr _ | daa | rlc | ral | rrc | rar => exact ⟨_, rfl, setReg_sp ..⟩
  | inrM | dcrM => exact ⟨_, rfl, store_sp ..⟩
  | dad p => exact ⟨_, rfl, setPair_sp ..⟩
  | jcond cc a16 => exact ⟨_, jumpIf_eq cc a16 s, rfl⟩
  | inPort port => exact ⟨_, execInPort_eq port s, setReg_sp ..⟩
  | cmc | stc | nop | hlt | di | ei | jmp _ | pchl | outPort _ => exact ⟨_, rfl, rfl⟩

/-- Settles O24, by the fields of the instruction. -/
theorem spIsWrittenOnlyAsListed : Obligations.SpIsWrittenOnlyAsListed := by
  intro i s hi
  rw [exec_eq_execForm]
  exact execForm_sp i.form hi s

/-! ### The flags -/

/-- The flags outside the rows of the table of 10_state section 4 that have the instruction keep their values. -/
structure KeepsFlags (b : Board) (i : Form) (f g : Flags) : Prop where
  c : writesC i = false → g.c = f.c
  zs : writesZS i = false → g.z = f.z ∧ g.s = f.s
  p : writesP b.variant i = false → g.p = f.p
  h : writesH b.daaH i = false → g.h = f.h

theorem KeepsFlags.refl (b : Board) (i : Form) (f : Flags) : KeepsFlags b i f f :=
  ⟨fun _ => rfl, fun _ => ⟨rfl, rfl⟩, fun _ => rfl, fun _ => rfl⟩

theorem KeepsFlags.of_eq {b : Board} {i : Form} {f g : Flags} (hfg : g = f) : KeepsFlags b i f g :=
  hfg ▸ .refl b i f

/-- Arithmetic leaves P on the MYCPU80, so its row of P is that of the 8080 (R86). -/
theorem zspArith_p {var : Variant} {i : Form} (hzs : writesZS i = true) (f : Flags) (v : Byte)
    (hp : writesP var i = false) : (zspArith var f v).p = f.p := by
  cases var with
  | i8080 => simp [writesP, hzs] at hp
  | mycpu80 => rfl

/-- Logical instructions, DAA and POP PSW write P on both machines. -/
theorem writesP_ne_false {i : Form} {var : Variant} (hzs : writesZS i = true) (harith : arithmeticP i = false) :
    writesP var i ≠ false := by
  simp [writesP, hzs, harith]

/-- Each accumulator operation, on the flags that its rows of the table leave: P, when it is arithmetic. -/
theorem aluCompute_keepsFlags (b : Board) (op : AluOp) (o : Operand) (f : Flags) (x y : Byte) :
    KeepsFlags b (.alu op o) f (aluCompute b.variant op f x y).2 := by
  refine ⟨nofun, nofun, fun hp => ?_, nofun⟩
  cases op with
  | add | adc | sub | sbb | cmp => exact zspArith_p rfl _ _ hp
  | ana | xra | ora => exact absurd hp (writesP_ne_false rfl rfl)

theorem execForm_flags (f : Form) (s : State) :
    ∃ t, execForm f s = .next t ∧ KeepsFlags s.board f s.flags t.flags := by
  cases f with
  | alu op src => exact ⟨_, aluOperate_eq op src s, aluCompute_keepsFlags ..⟩
  | inr _ | dcr _ | inrM | dcrM => exact ⟨_, rfl, fun _ => rfl, nofun, zspArith_p rfl _ _, nofun⟩
  | daa =>
    refine ⟨_, rfl, nofun, nofun, fun hp => absurd hp (writesP_ne_false rfl rfl), fun hh => ?_⟩
    show (daa8 s.board.daaH s.flags (s.reg .a)).2.h = s.flags.h
    cases hd : s.board.daaH with
    | unchanged => rfl
    | carry3 => simp [writesH, hd] at hh
  | dad p => exact ⟨_, rfl, nofun, fun _ => ⟨rfl, rfl⟩, fun _ => rfl, nofun⟩
  | rlc | ral | rrc | rar | cmc | stc =>
    exact ⟨_, rfl, nofun, fun _ => ⟨rfl, rfl⟩, fun _ => rfl, fun _ => rfl⟩
  | popPsw => exact ⟨_, rfl, nofun, nofun, fun hp => absurd hp (writesP_ne_false rfl rfl), nofun⟩
  | mov _ _ | movRM _ | mvi _ _ | ldax _ | lda _ | cma => exact ⟨_, rfl, .of_eq (setReg_flags ..)⟩
  | movMR _ | mviM _ | stax _ | sta _ => exact ⟨_, rfl, .of_eq (store_flags ..)⟩
  | shld a16 => exact ⟨_, rfl, .of_eq (store16_flags ..)⟩
  | push _ | pushPsw => exact ⟨_, rfl, .of_eq (push_flags ..)⟩
  | call _ | rst _ => exact ⟨_, rfl, .of_eq (callTo_flags ..)⟩
  | lhld _ | pop _ => exact ⟨_, rfl, .of_eq (setPair_flags ..)⟩
  | xchg => exact ⟨_, rfl, .of_eq ((setPair_flags ..).trans (setPair_flags ..))⟩
  | xthl => exact ⟨_, rfl, .of_eq ((setPair_flags ..).trans (store16_flags ..))⟩
  | lxi _ _ | inx _ | dcx _ => exact ⟨_, rfl, .of_eq (setPairSp_flags ..)⟩
  | jcond cc a16 => exact ⟨_, jumpIf_eq cc a16 s, .refl ..⟩
  | ccond cc a16 =>
    refine ⟨_, callIf_eq cc a16 s, .of_eq ?_⟩
    split
    · exact callTo_flags s a16
    · rfl
  | rcond cc =>
    refine ⟨_, returnIf_eq cc s, .of_eq ?_⟩
    split <;> rfl
  | inPort port => exact ⟨_, execInPort_eq port s, .of_eq (setReg_flags ..)⟩
  | sphl | nop | hlt | di | ei | jmp _ | pchl | ret | outPort _ => exact ⟨_, rfl, .refl ..⟩

/-- Settles O23, by the fields of the instruction. -/
theorem flagsAreWrittenOnlyAsTabled : Obligations.FlagsAreWrittenOnlyAsTabled := by
  intro i s
  obtain ⟨t, hexec, hflags⟩ := execForm_flags i.form s
  exact ⟨t, (exec_eq_execForm i s).trans hexec, hflags.c, hflags.zs, hflags.p, hflags.h⟩

end Sys2Proof.Proofs

/-! ### The two machines (00_scope.md section 2): O26 -/

namespace Sys2Proof.Proofs

open Sys2Proof Sys2Proof.Machine Sys2Proof.Laws

/-! ### Operations that do not read `VARIANT` -/

/-- The same state on the machine `var`. -/
def onVariant (var : Variant) (s : State) : State := { s with board := { s.board with variant := var } }

section onVariant
variable (var : Variant) (s : State)

theorem onVariant_setReg (r : Reg) (v : Byte) : (onVariant var s).setReg r v = onVariant var (s.setReg r v) := by
  cases r <;> rfl

theorem onVariant_setPair (p : Pair) (v : Word) : (onVariant var s).setPair p v = onVariant var (s.setPair p v) := by
  cases p <;> rfl

theorem onVariant_setPairSp (p : PairSp) (v : Word) :
    (onVariant var s).setPairSp p v = onVariant var (s.setPairSp p v) := by
  cases p <;> rfl

theorem onVariant_store (x : Word) (v : Byte) : (onVariant var s).store x v = onVariant var (s.store x v) := by
  rw [store_eq, store_eq]
  rfl

theorem onVariant_store16 (x v : Word) : (onVariant var s).store16 x v = onVariant var (s.store16 x v) := by
  rw [State.store16, onVariant_store, onVariant_store]
  rfl

theorem onVariant_push (hi lo : Byte) : (onVariant var s).push hi lo = onVariant var (s.push hi lo) := by
  simp only [State.push]
  rw [onVariant_store, onVariant_store]
  rfl

theorem onVariant_callTo (x : Word) : (onVariant var s).callTo x = onVariant var (s.callTo x) := by
  simp only [State.callTo]
  rw [onVariant_push]
  rfl

theorem onVariant_ret : (onVariant var s).ret = onVariant var s.ret := rfl

end onVariant

/-- What an operation answers, with the next state changed. -/
def mapNext (g : State → State) : Result → Result
  | .next t => .next (g t)
  | .fault f => .fault f
  | .refused r => .refused r

/-- An operation that neither adds, subtracts, compares, increments nor decrements 8 bits does the same on both
machines. -/
theorem execForm_onVariant (f : Form) (hf : arithmeticP f = false) (var : Variant) (s : State) :
    execForm f (onVariant var s) = mapNext (onVariant var) (execForm f s) := by
  cases f with
  | inr _ | inrM | dcr _ | dcrM => cases hf
  | alu op src =>
    cases op with
    | add | adc | sub | sbb | cmp => cases hf
    | ana | xra | ora => cases src <;> rfl
  | mov _ _ | movRM _ | mvi _ _ => exact congrArg _ (onVariant_setReg ..)
  | movMR _ | mviM _ => exact congrArg _ (onVariant_store ..)
  | ldax p => cases p <;> rfl
  | stax p => cases p <;> exact congrArg _ (onVariant_store ..)
  | sta a16 => exact congrArg _ (onVariant_store ..)
  | lxi p d16 => exact congrArg _ (onVariant_setPairSp ..)
  | inx p | dcx p => cases p <;> rfl
  | dad p => cases p <;> rfl
  | shld a16 => exact congrArg _ (onVariant_store16 ..)
  | xthl =>
    show execXthl .. = mapNext _ (execXthl ..)
    rw [execXthl, onVariant_store16, onVariant_setPair]
    rfl
  | push _ | pushPsw => exact congrArg _ (onVariant_push ..)
  | pop p => cases p <;> rfl
  | call _ | rst _ => exact congrArg _ (onVariant_callTo ..)
  | jcond cc a16 =>
    show jumpIf .. = mapNext _ (jumpIf ..)
    rw [jumpIf_eq, jumpIf_eq]
    rfl
  | ccond cc a16 =>
    show callIf .. = mapNext _ (callIf ..)
    rw [callIf_eq, callIf_eq, onVariant_callTo]
    exact congrArg Host.Outcome.next (apply_ite (onVariant var) _ _ _).symm
  | rcond cc =>
    show returnIf .. = mapNext _ (returnIf ..)
    rw [returnIf_eq, returnIf_eq, onVariant_ret]
    exact congrArg Host.Outcome.next (apply_ite (onVariant var) _ _ _).symm
  | inPort port =>
    show execInPort .. = mapNext _ (execInPort ..)
    rw [execInPort_eq, execInPort_eq]
    rfl
  | _ => rfl

/-! ### Arithmetic -/

/-- The state `t` of the 8080 as the MYCPU80 has it where P was `p`. -/
def withoutParity (p : Bool) (t : State) : State :=
  { t with board := { t.board with variant := .mycpu80 }, flags := { t.flags with p := p } }

/-- An operation that adds, subtracts, compares, increments or decrements 8 bits leaves P on the MYCPU80 (R86). -/
theorem execForm_withoutParity (f : Form) (hf : arithmeticP f = true) (s : State) :
    ∃ t, execForm f (onVariant .i8080 s) = .next t ∧
      execForm f (onVariant .mycpu80 s) = .next (withoutParity s.flags.p t) := by
  cases f with
  | alu op src =>
    cases op with
    | add | adc | sub | sbb | cmp => exact ⟨_, rfl, by cases src <;> rfl⟩
    | ana | xra | ora => cases hf
  | inr r | dcr r => exact ⟨_, rfl, by cases r <;> rfl⟩
  | inrM | dcrM =>
    refine ⟨_, rfl, ?_⟩
    simp only [execForm, execInrM, execDcrM, onVariant_store]
    rfl
  | _ => cases hf

/-! ### The statement -/

/-- Settles O26: what is not arithmetic reads no `VARIANT`, and arithmetic reads it for P only. -/
theorem variantsDifferOnlyInP : Obligations.VariantsDifferOnlyInP := by
  intro i s
  rw [exec_eq_execForm, exec_eq_execForm]
  cases hf : arithmeticP i.form with
  | true =>
    obtain ⟨t, ht, hu⟩ := execForm_withoutParity i.form hf s
    exact ⟨t, _, ht, hu, rfl⟩
  | false =>
    obtain ⟨t, ht, _⟩ := exec_frame i s
    have hrun : ∀ var, execForm i.form (onVariant var s) = .next (onVariant var t) := fun var => by
      rw [execForm_onVariant i.form hf var s, ← exec_eq_execForm, ht]
      rfl
    exact ⟨_, _, hrun .i8080, hrun .mycpu80, rfl⟩

end Sys2Proof.Proofs

/-! ### Memory in canonical form (20_memory.md section 1): O27 -/

namespace Sys2Proof.Proofs

open Sys2Proof Sys2Proof.Machine Sys2Proof.Laws

theorem memory_wf_cons_iff (x : Nat) (v : Byte) (m : Memory) :
    Memory.wf ((x, v) :: m) ↔
      (x < 65536 ∧ v ≠ Memory.unlisted) ∧ (∀ y ∈ m, x < y.1) ∧ m.wf := by
  simp only [Memory.wf, List.forall_mem_cons, List.pairwise_cons]
  tauto

/-- The entry of the lowest address reads as a byte that no unlisted address has. -/
theorem read_head_ne_unlisted {x : Nat} {v : Byte} {m : Memory} (hm : Memory.wf ((x, v) :: m)) :
    Memory.read ((x, v) :: m) x ≠ Memory.unlisted := by
  obtain ⟨⟨_, hv⟩, _, _⟩ := (memory_wf_cons_iff x v m).1 hm
  rwa [memory_read_cons, if_pos rfl]

/-- Memories that read alike do not differ in the lowest address that they list. -/
theorem head_le_of_read_eq {x y : Nat} {v w : Byte} {m n : Memory} (hm : Memory.wf ((x, v) :: m))
    (hn : Memory.wf ((y, w) :: n)) (hread : ∀ a, Memory.read ((x, v) :: m) a = Memory.read ((y, w) :: n) a) :
    y ≤ x := by
  by_contra hlt
  obtain ⟨_, hlow, _⟩ := (memory_wf_cons_iff y w n).1 hn
  refine read_head_ne_unlisted hm ((hread x).trans (memory_read_below _ x ?_))
  rintro z hz
  rcases List.mem_cons.1 hz with rfl | hz
  · exact Nat.lt_of_not_le hlt
  · exact (Nat.lt_of_not_le hlt).trans (hlow z hz)

/-- Settles O27, by induction on the first list: the lowest entries are the same, and the rests read alike. -/
theorem canonicalMemoryIsItsReads : Obligations.CanonicalMemoryIsItsReads := by
  intro m
  induction m with
  | nil =>
    rintro (_ | ⟨⟨y, w⟩, n⟩) _ hn hread
    · rfl
    · exact absurd (hread y).symm (read_head_ne_unlisted hn)
  | cons entry m ih =>
    obtain ⟨x, v⟩ := entry
    rintro (_ | ⟨⟨y, w⟩, n⟩) hm hn hread
    · exact absurd (hread x) (read_head_ne_unlisted hm)
    · obtain rfl : x = y :=
        Nat.le_antisymm (head_le_of_read_eq hn hm fun a => (hread a).symm) (head_le_of_read_eq hm hn hread)
      obtain rfl : v = w := by simpa [memory_read_cons] using hread x
      obtain ⟨_, hlowm, hm'⟩ := (memory_wf_cons_iff x v m).1 hm
      obtain ⟨_, hlown, hn'⟩ := (memory_wf_cons_iff x v n).1 hn
      have hrest : ∀ a, Memory.read m a = Memory.read n a := by
        intro a
        by_cases ha : a = x
        · rw [ha, memory_read_below m x hlowm, memory_read_below n x hlown]
        · simpa [memory_read_cons, ha] using hread a
      rw [ih n hm' hn' hrest]

end Sys2Proof.Proofs

/-! ### Stores (40_transfer8.md, 41_transfer16.md, 42_exchange.md, 43_alu8.md): O29, O32, O34, O39 and O46 -/

namespace Sys2Proof.Proofs

open Sys2Proof Sys2Proof.Machine Sys2Proof.Laws

/-! ### What stores leave unchanged -/

theorem sameRegsBut_of_regs_eq {s t : State} (hregs : t.regs = s.regs) (written : List Reg) :
    SameRegsBut written s t := fun r _ => reg_congr s t hregs r

theorem sameControl_trans {s t u : State} (hst : SameControl s t) (htu : SameControl t u) : SameControl s u := by
  obtain ⟨hinte, heiPend, hhalted, hboard, hschedule, hioIn, htick⟩ := hst
  obtain ⟨hinte', heiPend', hhalted', hboard', hschedule', hioIn', htick'⟩ := htu
  exact ⟨hinte'.trans hinte, heiPend'.trans heiPend, hhalted'.trans hhalted, hboard'.trans hboard,
    hschedule'.trans hschedule, hioIn'.trans hioIn, htick'.trans htick⟩

theorem store_sameControl (s : State) (x : Word) (v : Byte) : SameControl s (s.store x v) :=
  ⟨store_inte s x v, store_eiPend s x v, store_halted s x v, store_board s x v, store_schedule s x v,
    store_ioIn s x v, store_tick s x v⟩

theorem store16_sameControl (s : State) (x v : Word) : SameControl s (s.store16 x v) :=
  ⟨store16_inte s x v, store16_eiPend s x v, store16_halted s x v, store16_board s x v, store16_schedule s x v,
    store16_ioIn s x v, store16_tick s x v⟩

theorem store_memoryOnly (s : State) (x : Word) (v : Byte) : MemoryOnly s (s.store x v) :=
  ⟨sameRegsBut_of_regs_eq (store_regs s x v) [], store_flags s x v, store_sp s x v, store_pc s x v,
    store_sameControl s x v⟩

theorem store16_memoryOnly (s : State) (x v : Word) : MemoryOnly s (s.store16 x v) :=
  ⟨sameRegsBut_of_regs_eq (store16_regs s x v) [], store16_flags s x v, store16_sp s x v, store16_pc s x v,
    store16_sameControl s x v⟩

/-- An instruction whose operation is `MemWrite(x, 1, v)` stores that byte and does nothing else. -/
theorem store_spec_of_exec_eq {i : Instr} {s : State} (hwf : s.mem.wf) {x : Word} {v : Byte}
    (hexec : exec i s = .next (s.store x v)) :
    ∃ t, exec i s = .next t ∧ StoresByte x v s t ∧ MemoryOnly s t :=
  ⟨_, hexec, store_spec s hwf x v, store_memoryOnly s x v⟩

/-! ### The operations -/

/-- `x[dst] <- MemRead(rp[HL], 1)` (R102). -/
theorem exec_movRM (dst : Reg) (s : State) :
    exec (Form.movRM dst).instr s = .next (s.setReg dst (s.load .data (s.pair .hl))) := exec_instr _ s

/-- `MemWrite(rp[HL], 1, x[src])` (R103). -/
theorem exec_movMR (src : Reg) (s : State) :
    exec (Form.movMR src).instr s = .next (s.store (s.pair .hl) (s.reg src)) := exec_instr _ s

/-- `MemWrite(rp[HL], 1, B2)` (R105). -/
theorem exec_mviM (d8 : Byte) (s : State) : exec (.mviM d8) s = .next (s.store (s.pair .hl) d8) :=
  exec_instr (.mviM d8) s

/-- `MemWrite(rp[p], 1, x[A])` (R109, R110). -/
theorem exec_stax (p : PairIx) (s : State) :
    exec (Form.stax p).instr s = .next (s.store (s.pairIx p) (s.reg .a)) := exec_instr _ s

/-- `MemWrite(addr16, 1, x[A])` (R111). -/
theorem exec_sta (a16 : Word) (s : State) : exec (.sta a16) s = .next (s.store a16 (s.reg .a)) :=
  exec_instr (.sta a16) s

/-- `rp[HL] <- MemRead(addr16, 2)` (R116). -/
theorem exec_lhld (a16 : Word) (s : State) : exec (.lhld a16) s = .next (s.setPair .hl (s.load16 a16)) :=
  exec_instr (.lhld a16) s

/-- `MemWrite(addr16, 2, rp[HL])` (R117). -/
theorem exec_shld (a16 : Word) (s : State) : exec (.shld a16) s = .next (s.store16 a16 (s.pair .hl)) :=
  exec_instr (.shld a16) s

/-- HL exchanged with the two bytes at SP (R128). -/
theorem exec_xthl (s : State) :
    exec .xthl s = .next ((s.store16 s.sp (s.pair .hl)).setPair .hl (s.load16 s.sp)) := exec_instr .xthl s

/-- The byte `r.1` stored at HL, and the flags `r.2` (R154, R156). -/
def withByteAndFlags (s : State) (r : Byte × Flags) : State := { s.store (s.pair .hl) r.1 with flags := r.2 }

theorem withByteAndFlags_storesByte (s : State) (hwf : s.mem.wf) (r : Byte × Flags) :
    StoresByte (s.pair .hl) r.1 s (withByteAndFlags s r) :=
  storesByte_congr (store_spec s hwf (s.pair .hl) r.1) rfl rfl rfl rfl

theorem withByteAndFlags_sameRegs (s : State) (r : Byte × Flags) : SameRegsBut [] s (withByteAndFlags s r) :=
  sameRegsBut_of_regs_eq (store_regs s (s.pair .hl) r.1) []

theorem withByteAndFlags_sameControl (s : State) (r : Byte × Flags) : SameControl s (withByteAndFlags s r) :=
  store_sameControl s (s.pair .hl) r.1

/-- `MemWrite(rp[HL], 1, inr8(MemRead(rp[HL], 1)))` (R154). -/
theorem exec_inrM (s : State) :
    exec .inrM s =
      .next (withByteAndFlags s (inr8 s.board.variant s.flags (s.load .data (s.pair .hl)))) := exec_instr .inrM s

/-- `MemWrite(rp[HL], 1, dcr8(MemRead(rp[HL], 1)))` (R156). -/
theorem exec_dcrM (s : State) :
    exec .dcrM s =
      .next (withByteAndFlags s (dcr8 s.board.variant s.flags (s.load .data (s.pair .hl)))) := exec_instr .dcrM s

/-! ### The encodings -/

theorem encode_movRM (dst : Reg) : encode (Form.movRM dst).instr = [fieldByte 1 (regCode dst) 6] :=
  encode_instr (.movRM dst)

theorem encode_movMR (src : Reg) : encode (Form.movMR src).instr = [fieldByte 1 6 (regCode src)] :=
  encode_instr (.movMR src)

theorem encode_sta (a16 : Word) :
    encode (.sta a16) = [0x32, BitVec.ofNat 8 (a16.toNat % 256), BitVec.ofNat 8 (a16.toNat / 256)] := by
  rw [← loByte_eq_ofNat, ← hiByte_eq_ofNat]
  rfl

/-! ### The statements -/

/-- Settles O29: MOV r,M writes one register with the byte at HL. -/
theorem movFromMemory : Obligations.MovFromMemory := fun r s =>
  ⟨load_spec_of_exec_eq (exec_movRM r s), encode_movRM r⟩

/-- Settles O32: each of the five stores one byte; they differ in the address and the byte. -/
theorem storeOneByte : Obligations.StoreOneByte := by
  intro s a16 d8 hwf
  refine ⟨?movMR, ?mviM, ?staxB, ?staxD, ?sta, rfl, rfl, rfl, encode_sta a16⟩
  case movMR => exact fun r => ⟨store_spec_of_exec_eq hwf (exec_movMR r s), encode_movMR r⟩
  case mviM => exact store_spec_of_exec_eq hwf (exec_mviM d8 s)
  case staxB => exact store_spec_of_exec_eq hwf (exec_stax .bc s)
  case staxD => exact store_spec_of_exec_eq hwf (exec_stax .de s)
  case sta => exact store_spec_of_exec_eq hwf (exec_sta a16 s)

/-- The next address modulo 65536 (R46, D18). -/
theorem ofNat_succ_mod (x : Word) : BitVec.ofNat 16 ((x.toNat + 1) % 65536) = x + 1#16 := by
  apply BitVec.eq_of_toNat_eq
  simp [BitVec.toNat_add]

/-- Settles O34: LHLD writes the pair HL, SHLD stores its two bytes, the low one first. -/
theorem loadAndStoreHlDirect : Obligations.LoadAndStoreHlDirect := by
  intro s a16
  rw [ofNat_succ_mod]
  refine ⟨?lhld, fun hwf => ?shld⟩
  case lhld =>
    obtain ⟨t, hexec, hhi, hlo, hframe⟩ := loadPair_spec_of_exec_eq (exec_lhld a16 s)
    exact ⟨t, hexec, hlo.trans (lo_wordOf _ _), hhi.trans (hi_wordOf _ _), hframe⟩
  case shld =>
    have hstores := store16_spec s hwf a16 (s.pair .hl)
    rw [State.pair, lo_wordOf, hi_wordOf] at hstores
    exact ⟨_, exec_shld a16 s, hstores, store16_memoryOnly s a16 (s.pair .hl)⟩

/-- Settles O39: XTHL reads two bytes, stores HL there, and then writes the pair with what it has read. -/
theorem exchangeTopOfStack : Obligations.ExchangeTopOfStack := by
  intro s hwf
  have hstores := store16_spec s hwf s.sp (s.pair .hl)
  rw [State.pair, lo_wordOf, hi_wordOf] at hstores
  refine ⟨_, exec_xthl s, ?l, ?h, ?stores, ?regs, ?flags, ?sp, ?pc, ?control⟩
  case l => exact (reg_setPair_lo _ .hl _).trans (lo_wordOf _ _)
  case h => exact (reg_setPair_hi _ .hl _).trans (hi_wordOf _ _)
  case stores =>
    exact storesTwo_congr hstores (setPair_mem ..) (setPair_board ..) (setPair_output ..) (setPair_tick ..)
  case regs =>
    intro r hr
    rw [setPair_sameRegsBut _ .hl _ r hr, reg_congr _ _ (store16_regs ..)]
  case control =>
    exact sameControl_trans (store16_sameControl s s.sp (s.pair .hl)) (setPair_sameControl _ .hl (s.load16 s.sp))
  all_goals simp

theorem eq_ofNat_of_toNat_eq {v : Byte} {n : Nat} (h : v.toNat = n) : v = BitVec.ofNat 8 n := by
  rw [← h, BitVec.ofNat_toNat, BitVec.setWidth_eq]

/-- An instruction whose operation is to store the byte `r.1` at HL and to write the flags `r.2`. -/
theorem byteAndFlags_spec_of_exec_eq {i : Instr} {s : State} (hwf : s.mem.wf) {r : Byte × Flags}
    (hexec : exec i s = .next (withByteAndFlags s r)) {n : Nat} (hn : r.1.toNat = n) :
    ∃ t, exec i s = .next t ∧ StoresByte (s.reg .h ++ s.reg .l) (BitVec.ofNat 8 n) s t ∧ t.flags = r.2 ∧
      SameRegsBut [] s t ∧ t.sp = s.sp ∧ t.pc = s.pc ∧ SameControl s t :=
  ⟨_, hexec, eq_ofNat_of_toNat_eq hn ▸ withByteAndFlags_storesByte s hwf r, rfl, withByteAndFlags_sameRegs s r,
    store_sp .., store_pc .., withByteAndFlags_sameControl s r⟩

/-- Settles O46: the byte at HL is stored with the flags of INR and DCR, neither of which writes C. -/
theorem incrementAndDecrementMemory : Obligations.IncrementAndDecrementMemory := by
  intro s hwf
  refine ⟨?inrM, ?dcrM, rfl, rfl⟩
  case inrM =>
    obtain ⟨t, hexec, hstores, hflags, hframe⟩ := byteAndFlags_spec_of_exec_eq hwf (exec_inrM s) (inr8_toNat ..)
    refine ⟨t, hexec, hstores, ?_, ?_, ?_, hframe⟩ <;> rw [hflags]
    exacts [inr8_h .., inr8_arithmeticFlags .., inr8_c ..]
  case dcrM =>
    obtain ⟨t, hexec, hstores, hflags, hframe⟩ := byteAndFlags_spec_of_exec_eq hwf (exec_dcrM s) (dcr8_toNat ..)
    refine ⟨t, hexec, hstores, ?_, ?_, ?_, hframe⟩ <;> rw [hflags]
    exacts [dcr8_h .., dcr8_arithmeticFlags .., dcr8_c ..]

end Sys2Proof.Proofs

/-! ### The stack (41_transfer16.md, PUSH and POP): O35, O36 and O37 -/

namespace Sys2Proof.Proofs

open Sys2Proof Sys2Proof.Machine Sys2Proof.Laws

/-! ### What a push does, and what is found there afterwards -/

theorem push_sameControl (s : State) (hi lo : Byte) : SameControl s (s.push hi lo) :=
  ⟨push_inte s hi lo, push_eiPend s hi lo, push_halted s hi lo, push_board s hi lo, push_schedule s hi lo,
    push_ioIn s hi lo, push_tick s hi lo⟩

/-- SP less 2 is the address below SP less 1 (R45). -/
theorem sub_two_add_one (x : Word) : x - 2#16 + 1#16 = x - 1#16 := by bv_omega

theorem sub_two_add_two (x : Word) : x - 2#16 + 2#16 = x := BitVec.sub_add_cancel x 2#16

/-- What two stores below SP leave in RAM is read back as the two bytes at the top of the stack. -/
theorem loads_of_storesTwo {s t : State} {hi lo : Byte} (hstores : StoresTwo (s.sp - 1#16) hi (s.sp - 2#16) lo s t)
    (hram1 : s.memKind (s.sp - 1#16) = .ram) (hram2 : s.memKind (s.sp - 2#16) = .ram) (hsp : t.sp = s.sp - 2#16) :
    t.load .data (t.sp + 1#16) = hi ∧ t.load .data t.sp = lo := by
  obtain ⟨hhi, hlo, _⟩ := hstores
  rw [hsp, sub_two_add_one]
  exact ⟨hhi hram1 .data, hlo hram2 .data⟩

/-- An instruction whose operation is to push two bytes. -/
theorem push_spec_of_exec_eq {i : Instr} {s : State} (hwf : s.mem.wf) {hi lo : Byte}
    (hexec : exec i s = .next (s.push hi lo)) :
    ∃ t, exec i s = .next t ∧ t.sp = s.sp - 2#16 ∧ StoresTwo (s.sp - 1#16) hi (s.sp - 2#16) lo s t ∧
      SameRegsBut [] s t ∧ t.flags = s.flags ∧ t.pc = s.pc ∧ SameControl s t :=
  ⟨_, hexec, push_sp s hi lo, push_spec s hwf hi lo, sameRegsBut_of_regs_eq (push_regs s hi lo) [],
    push_flags s hi lo, push_pc s hi lo, push_sameControl s hi lo⟩

/-! ### The operations -/

/-- The two registers of the pair, the high one first (R119 to R121). -/
theorem exec_push (p : Pair) (s : State) :
    exec (Form.push p).instr s = .next (s.push (s.reg (pairHi p)) (s.reg (pairLo p))) := exec_instr _ s

/-- A, then the flag byte (R122). -/
theorem exec_pushPsw (s : State) :
    exec .pushPSW s = .next (s.push (s.reg .a) (flagByte s.flags (Config.fUnused s.tick))) := exec_instr .pushPsw s

/-- The state after the two bytes at the top of the stack are popped into a pair. -/
def popped (p : Pair) (s : State) : State := (s.setPair p (s.load16 s.sp)).dropTop

/-- `rp[p] <- MemRead(SP, 2); SP <- SP + 2` (R123 to R125). -/
theorem exec_pop (p : Pair) (s : State) : exec (Form.pop p).instr s = .next (popped p s) := exec_instr _ s

theorem reg_popped (p : Pair) (s : State) (r : Reg) : (popped p s).reg r = (s.setPair p (s.load16 s.sp)).reg r :=
  reg_congr _ _ (dropTop_regs _) r

theorem popped_sp (p : Pair) (s : State) : (popped p s).sp = s.sp + 2#16 := by
  rw [popped, dropTop_sp, setPair_sp]

theorem popped_flags (p : Pair) (s : State) : (popped p s).flags = s.flags := setPair_flags ..

theorem popped_sameRegsBut (p : Pair) (s : State) : SameRegsBut [pairHi p, pairLo p] s (popped p s) := fun r hr =>
  (reg_popped p s r).trans (setPair_sameRegsBut s p _ r hr)

theorem popped_storesNothing (p : Pair) (s : State) : StoresNothing s (popped p s) :=
  storesNothing_of_eq s _ (setPair_mem ..) (setPair_board ..) (setPair_output ..)

/-- The state after the flag byte and A are popped. -/
def poppedPsw (s : State) : State :=
  { (s.setReg .a (s.load .data (s.sp + 1#16))).dropTop with flags := flagsOfByte (s.load .data s.sp) }

/-- The flag byte from SP, A from SP+1 (R126). -/
theorem exec_popPsw (s : State) : exec .popPSW s = .next (poppedPsw s) := exec_instr .popPsw s

theorem reg_poppedPsw (s : State) (r : Reg) :
    (poppedPsw s).reg r = (s.setReg .a (s.load .data (s.sp + 1#16))).reg r := reg_congr _ _ rfl r

/-! ### The statements -/

/-- Settles O35: a push of two bytes, the registers of the pair, or A and the flag byte. -/
theorem pushStoresPair : Obligations.PushStoresPair := by
  intro s hwf
  refine ⟨fun p => push_spec_of_exec_eq hwf (exec_push p s), ?psw⟩
  case psw =>
    obtain ⟨t, hexec, hsp, hstores, hframe⟩ := push_spec_of_exec_eq hwf (exec_pushPsw s)
    have hflags := flagsOfByte_flagByte s.flags (Config.fUnused s.tick)
    exact ⟨t, _, hexec, hsp, hstores, congrArg Flags.s hflags, congrArg Flags.z hflags, congrArg Flags.h hflags,
      congrArg Flags.p hflags, congrArg Flags.c hflags, hframe⟩

/-- Settles O36: a pop writes one pair, or A and the flags, and SP. -/
theorem popLoadsPair : Obligations.PopLoadsPair := by
  intro s
  refine ⟨fun p => ?pair, ?psw⟩
  case pair =>
    refine ⟨_, exec_pop p s, popped_sp p s, ?lo, ?hi, popped_sameRegsBut p s, popped_flags p s, setPair_pc ..,
      popped_storesNothing p s, setPair_sameControl ..⟩
    case lo => rw [reg_popped, reg_setPair_lo, State.load16, lo_wordOf]
    case hi => rw [reg_popped, reg_setPair_hi, State.load16, hi_wordOf]
  case psw =>
    exact ⟨_, exec_popPsw s, rfl, rfl, rfl, rfl, rfl, rfl, rfl,
      fun r hr => (reg_poppedPsw s r).trans (setReg_sameRegsBut s .a _ r hr), rfl,
      storesNothing_of_eq s _ rfl rfl rfl, ⟨rfl, rfl, rfl, rfl, rfl, rfl, rfl⟩⟩

/-- Settles O37: what a push leaves in RAM is what the pop reads. -/
theorem pushThenPopCopies : Obligations.PushThenPopCopies := by
  intro s hwf hram1 hram2
  refine ⟨fun p q => ?pair, ?psw⟩
  case pair =>
    obtain ⟨t, hexec, hsp, hstores, hregs, hflags, _⟩ := push_spec_of_exec_eq hwf (exec_push p s)
    obtain ⟨hhi, hlo⟩ := loads_of_storesTwo hstores hram1 hram2 hsp
    refine ⟨t, popped q t, hexec, exec_pop q t, ?value, ?sp, (popped_flags q t).trans hflags, ?regs⟩
    case value =>
      calc (popped q t).pair q
        _ = (t.setPair q (t.load16 t.sp)).pair q := pair_congr _ _ (dropTop_regs _) q
        _ = wordOf (t.load .data (t.sp + 1#16)) (t.load .data t.sp) := pair_setPair_same ..
        _ = s.pair p := by rw [hhi, hlo]; rfl
    case sp => rw [popped_sp, hsp, sub_two_add_two]
    case regs => exact fun r hr => (popped_sameRegsBut q t r hr).trans (hregs r List.not_mem_nil)
  case psw =>
    obtain ⟨t, hexec, hsp, hstores, hregs, _⟩ := push_spec_of_exec_eq hwf (exec_pushPsw s)
    obtain ⟨hhi, hlo⟩ := loads_of_storesTwo hstores hram1 hram2 hsp
    refine ⟨t, poppedPsw t, hexec, exec_popPsw t, regs_eq_of_reg_eq fun r => ?reg, ?flags, ?sp⟩
    case reg =>
      rw [reg_poppedPsw, reg_setReg, hhi]
      split
      case isTrue ha => rw [ha]
      case isFalse => exact hregs r List.not_mem_nil
    case flags =>
      show flagsOfByte (t.load .data t.sp) = s.flags
      rw [hlo, flagsOfByte_flagByte]
    case sp =>
      show t.sp + 2#16 = s.sp
      rw [hsp, sub_two_add_two]

end Sys2Proof.Proofs

/-! ### Calls, returns and restarts (48_call_return.md): O56, O57, O58 and O59 -/

namespace Sys2Proof.Proofs

open Sys2Proof Sys2Proof.Machine Sys2Proof.Laws

/-! ### What a call and a return leave unchanged -/

theorem callTo_sameControl (s : State) (x : Word) : SameControl s (s.callTo x) :=
  ⟨callTo_inte s x, callTo_eiPend s x, callTo_halted s x, callTo_board s x, callTo_schedule s x, callTo_ioIn s x,
    callTo_tick s x⟩

/-- What the operation `call(target)` does (R96), of an instruction that runs it from `s`. -/
def CallsTo (s : State) (a16 : Word) (i : Instr) : Prop :=
  ∃ t, exec i s = .next t ∧ t.pc = a16 ∧ t.sp = s.sp - 2#16 ∧
    StoresTwo (s.sp - 1#16) (hiByte s.pc) (s.sp - 2#16) (loByte s.pc) s t ∧
    SameRegsBut [] s t ∧ t.flags = s.flags ∧ SameControl s t

theorem callsTo_of_exec_eq {i : Instr} {s : State} (hwf : s.mem.wf) {a16 : Word}
    (hexec : exec i s = .next (s.callTo a16)) : CallsTo s a16 i :=
  ⟨_, hexec, callTo_pc s a16, callTo_sp s a16, callTo_spec s hwf a16,
    sameRegsBut_of_regs_eq (callTo_regs s a16) [], callTo_flags s a16, callTo_sameControl s a16⟩

/-- What the operation `ret()` does (R97), of an instruction that runs it from `s`. -/
def ReturnsFrom (s : State) (i : Instr) : Prop :=
  ∃ t, exec i s = .next t ∧ t.pc = s.load .data (s.sp + 1#16) ++ s.load .data s.sp ∧ t.sp = s.sp + 2#16 ∧
    SameRegsBut [] s t ∧ t.flags = s.flags ∧ StoresNothing s t ∧ SameControl s t

theorem returnsFrom_of_exec_eq {i : Instr} {s : State} (hexec : exec i s = .next s.ret) : ReturnsFrom s i :=
  ⟨_, hexec, rfl, ret_sp s, sameRegsBut_of_regs_eq (ret_regs s) [], ret_flags s,
    storesNothing_of_eq s _ rfl rfl rfl, ⟨rfl, rfl, rfl, rfl, rfl, rfl, rfl⟩⟩

/-! ### The operations -/

/-- `call(addr16)` (R191). -/
theorem exec_call (a16 : Word) (s : State) : exec (.call a16) s = .next (s.callTo a16) := exec_instr (.call a16) s

/-- `if cond(cc): call(addr16)` (R192 to R199). -/
theorem exec_ccond (cc : Cond) (a16 : Word) (s : State) :
    exec (Form.ccond cc a16).instr s = .next (if condHolds cc s.flags then s.callTo a16 else s) :=
  (exec_instr _ s).trans (callIf_eq cc a16 s)

/-- `ret()` (R200). -/
theorem exec_ret (s : State) : exec .ret s = .next s.ret := exec_instr .ret s

/-- `if cond(cc): ret()` (R201 to R208). -/
theorem exec_rcond (cc : Cond) (s : State) :
    exec (Form.rcond cc).instr s = .next (if condHolds cc s.flags then s.ret else s) :=
  (exec_instr _ s).trans (returnIf_eq cc s)

/-- `call(8 * n)` (R209). -/
theorem exec_rst (n : Fin 8) (s : State) : exec (Form.rst n).instr s = .next (s.callTo (restartAddress n)) :=
  exec_instr _ s

theorem ccond_spec (cc : Cond) {s : State} (hwf : s.mem.wf) (a16 : Word) :
    (condHolds cc s.flags = true → CallsTo s a16 (Form.ccond cc a16).instr) ∧
      (condHolds cc s.flags = false → exec (Form.ccond cc a16).instr s = .next s) := by
  have hexec := exec_ccond cc a16 s
  refine ⟨fun htaken => ?_, fun huntaken => ?_⟩
  · rw [if_pos htaken] at hexec
    exact callsTo_of_exec_eq hwf hexec
  · rwa [if_neg (by simp [huntaken])] at hexec

theorem rcond_spec (cc : Cond) (s : State) :
    (condHolds cc s.flags = true → ReturnsFrom s (Form.rcond cc).instr) ∧
      (condHolds cc s.flags = false → exec (Form.rcond cc).instr s = .next s) := by
  have hexec := exec_rcond cc s
  refine ⟨fun htaken => ?_, fun huntaken => ?_⟩
  · rw [if_pos htaken] at hexec
    exact returnsFrom_of_exec_eq hexec
  · rwa [if_neg (by simp [huntaken])] at hexec

/-! ### The statements -/

/-- Settles O56: the eight conditional calls are one operation, each with its condition of R93. -/
theorem calls : Obligations.Calls := by
  intro s a16 hwf
  exact ⟨callsTo_of_exec_eq hwf (exec_call a16 s), ccond_spec .nz hwf a16, ccond_spec .z hwf a16,
    ccond_spec .nc hwf a16, ccond_spec .c hwf a16, ccond_spec .po hwf a16, ccond_spec .pe hwf a16,
    ccond_spec .p hwf a16, ccond_spec .m hwf a16⟩

/-- Settles O57: the eight conditional returns are one operation, each with its condition of R93. -/
theorem returns : Obligations.Returns := by
  intro s
  exact ⟨returnsFrom_of_exec_eq (exec_ret s), rcond_spec .nz s, rcond_spec .z s, rcond_spec .nc s,
    rcond_spec .c s, rcond_spec .po s, rcond_spec .pe s, rcond_spec .p s, rcond_spec .m s⟩

/-- Settles O58: RST n and CALL 8n run the same operation. -/
theorem restartIsCall : Obligations.RestartIsCall := by
  intro n s
  refine ⟨⟨_, exec_rst n s, exec_call _ s, ?pc, callTo_sp .., callTo_regs .., callTo_flags ..,
    callTo_sameControl ..⟩, encode_instr (.rst n)⟩
  case pc => rw [callTo_pc, toNat_restartAddress]

/-- A return where a call has saved PC of `s` in RAM goes back to it. -/
theorem ret_after_call {s t : State} (hram1 : s.memKind (s.sp - 1#16) = .ram)
    (hram2 : s.memKind (s.sp - 2#16) = .ram)
    (hstores : StoresTwo (s.sp - 1#16) (hiByte s.pc) (s.sp - 2#16) (loByte s.pc) s t) (hsp : t.sp = s.sp - 2#16)
    (hregs : t.regs = s.regs) (hflags : t.flags = s.flags) :
    ∃ u, exec .ret t = .next u ∧ u.pc = s.pc ∧ u.sp = s.sp ∧ u.regs = s.regs ∧ u.flags = s.flags := by
  obtain ⟨hhi, hlo⟩ := loads_of_storesTwo hstores hram1 hram2 hsp
  refine ⟨_, exec_ret t, ?pc, ?sp, (ret_regs t).trans hregs, (ret_flags t).trans hflags⟩
  case pc => rw [ret_pc, State.load16, hhi, hlo, wordOf_hi_lo]
  case sp => rw [ret_sp, hsp, sub_two_add_two]

/-- Settles O59: CALL, RST and the acceptance of an interrupt all save PC with one operation, and RET undoes it. -/
theorem callThenReturn : Obligations.CallThenReturn := by
  intro s a16 n hwf hram1 hram2
  have hback : ∀ x, ∃ u, exec .ret (s.callTo x) = .next u ∧ u.pc = s.pc ∧ u.sp = s.sp ∧ u.regs = s.regs ∧
      u.flags = s.flags := fun x =>
    ret_after_call hram1 hram2 (callTo_spec s hwf x) (callTo_sp s x) (callTo_regs s x) (callTo_flags s x)
  refine ⟨⟨_, exec_call a16 s, hback a16⟩, ⟨_, exec_rst n s, hback _⟩, fun haccept => ?interrupt⟩
  case interrupt =>
    refine ⟨_, step_of_acceptable_rst haccept, ret_after_call hram1 hram2 (acceptInterrupt_spec s hwf n) ?_ ?_ ?_⟩ <;>
      simp

end Sys2Proof.Proofs

/-! ### Control, input and output (44_misc_control.md, 49_io.md): O50 and O60 -/

namespace Sys2Proof.Proofs

open Sys2Proof Sys2Proof.Machine Sys2Proof.Laws

/-- Settles O50: each of the three writes one bit. -/
theorem hltDiEi : Obligations.HltDiEi := fun s => ⟨exec_hlt s, exec_di s, exec_ei s⟩

/-- `x[A] <- IoRead(B2)` (R210). -/
theorem exec_in (port : Byte) (s : State) :
    exec (.inPort port) s = .next { s.setReg .a (inputByte s port) with ioIn := s.ioIn.tail } :=
  (exec_instr (.inPort port) s).trans (execInPort_eq port s)

/-- `IoWrite(B2, x[A])` (R211). -/
theorem exec_out (port : Byte) (s : State) :
    exec (.outPort port) s = .next { s with output := s.output ++ [.ioWrite port (s.reg .a)] } :=
  exec_instr (.outPort port) s

theorem inputByte_of_ready {s : State} {x : Byte} {rest : List Byte} (hready : s.ioIn = x :: rest) (port : Byte) :
    inputByte s port = x := by
  rw [inputByte, hready, List.headD_cons]

/-- Settles O60: IN writes A and takes the answer that was ready, OUT appends one event. -/
theorem inputAndOutput : Obligations.InputAndOutput := by
  intro s port
  refine ⟨⟨_, inputByte s port, exec_in port s, rfl, fun x rest hready => inputByte_of_ready hready port, rfl, ?regs,
    rfl, rfl, rfl, storesNothing_of_eq s _ rfl rfl rfl, ⟨rfl, rfl, rfl, rfl, rfl, rfl, rfl⟩⟩, exec_out port s⟩
  case regs => exact fun r hr => (reg_congr _ _ rfl r).trans (setReg_sameRegsBut s .a (inputByte s port) r hr)

end Sys2Proof.Proofs

/-! ### Sums, differences and the decimal correction (43_alu8.md, 44_misc_control.md): O41, O42, O43, O47 and O48 -/

namespace Sys2Proof.Proofs

open Sys2Proof Sys2Proof.Machine Sys2Proof.Laws

theorem ite_eq_toNat (b : Bool) : (if b then 1 else 0) = b.toNat := by cases b <;> rfl

/-! ### The difference (R85) -/

section sub8
variable (var : Variant) (f : Flags) (a b : Byte) (bin : Bool)

/-- The nine-bit difference, in which the topmost bit is the borrow. -/
theorem toNat_sub8_diff :
    (a.setWidth 9 - b.setWidth 9 - bitOf 9 bin : BitVec 9).toNat = (a.toNat + 512 - b.toNat - bin.toNat) % 512 := by
  have ha := a.isLt
  have hb := b.isLt
  have hc := bin.toNat_lt
  simp only [BitVec.toNat_sub, BitVec.toNat_setWidth, toNat_bitOf (Nat.succ_pos 8)]
  omega

theorem sub8_toNat : (sub8 var f a b bin).1.toNat = (a.toNat + 512 - b.toNat - bin.toNat) % 256 := by
  have hmod : (a.toNat + 512 - b.toNat - bin.toNat) % 512 % 256 = (a.toNat + 512 - b.toNat - bin.toNat) % 256 := by
    omega
  simp only [sub8, BitVec.toNat_setWidth, toNat_sub8_diff]
  exact hmod

theorem sub8_c : (sub8 var f a b bin).2.c = true ↔ a.toNat < b.toNat + bin.toNat := by
  have ha := a.isLt
  have hb := b.isLt
  have hc := bin.toNat_lt
  have htop : (sub8 var f a b bin).2.c = true ↔ 256 ≤ (a.toNat + 512 - b.toNat - bin.toNat) % 512 := by
    rw [← toNat_sub8_diff]
    exact getLsbD_top_iff _
  exact htop.trans (by omega)

theorem sub8_h : (sub8 var f a b bin).2.h = true ↔ a.toNat % 16 < b.toNat % 16 + bin.toNat := by
  rw [← loNibble_toNat, ← loNibble_toNat]
  exact decide_eq_true_iff

theorem sub8_arithmeticFlags :
    ArithmeticFlags var ((a.toNat + 512 - b.toNat - bin.toNat) % 256) f (sub8 var f a b bin).2 := by
  rw [← sub8_toNat var f]
  exact zspArith_arithmeticFlags var rfl _

end sub8

/-! ### The operations -/

/-- `x[A] <- add8(x[A], op2, F.C)` (R132 to R134). -/
theorem exec_adc (o : Operand) (s : State) :
    exec (Form.alu .adc o).instr s =
      .next (withRegAndFlags s .a (add8 s.board.variant s.flags (s.reg .a) (s.operand o) s.flags.c).1
        (add8 s.board.variant s.flags (s.reg .a) (s.operand o) s.flags.c).2) := exec_alu rfl o s

/-- `x[A] <- sub8(x[A], op2, 0)`, or with the carry flag as the borrow-in (R135 to R140). -/
theorem exec_sub_or_sbb (borrow : Bool) (o : Operand) (s : State) :
    exec (Form.alu (if borrow then .sbb else .sub) o).instr s =
      .next (withRegAndFlags s .a
        (sub8 s.board.variant s.flags (s.reg .a) (s.operand o) (borrow && s.flags.c)).1
        (sub8 s.board.variant s.flags (s.reg .a) (s.operand o) (borrow && s.flags.c)).2) := by
  cases borrow with
  | false => exact exec_alu rfl o s
  | true => exact exec_alu rfl o s

/-- The flags of `sub8(x[A], op2, 0)`, and A as it was (R150 to R152). -/
theorem exec_cmp (o : Operand) (s : State) :
    exec (Form.alu .cmp o).instr s =
      .next { s with flags := (sub8 s.board.variant s.flags (s.reg .a) (s.operand o) false).2 } :=
  (exec_instr _ s).trans (aluOperate_eq .cmp o s)

/-- The decimal correction of A (R157). -/
theorem exec_daa (s : State) :
    exec .daa s = .next (withRegAndFlags s .a (daa8 s.board.daaH s.flags (s.reg .a)).1
      (daa8 s.board.daaH s.flags (s.reg .a)).2) := exec_instr .daa s

theorem withFlags_regsAndFlagsOnly (s : State) (f : Flags) : RegsAndFlagsOnly [] s { s with flags := f } :=
  ⟨fun _ _ => rfl, rfl, rfl, storesNothing_of_eq s _ rfl rfl rfl, ⟨rfl, rfl, rfl, rfl, rfl, rfl, rfl⟩⟩

/-! ### The statements on sums and differences -/

/-- Settles O41: ADC is the sum of ADD with the carry flag as the carry-in. -/
theorem addWithCarryInstructions : Obligations.AddWithCarryInstructions := by
  intro o s
  rw [ite_eq_toNat]
  refine ⟨_, exec_adc o s, ?sum, add8_c .., add8_h .., add8_arithmeticFlags .., withRegAndFlags_regsAndFlagsOnly ..⟩
  case sum =>
    rw [reg_withRegAndFlags_same]
    exact add8_toNat ..

/-- Settles O42: SUB and SBB are one difference, with and without the carry flag as the borrow-in. -/
theorem subtractInstructions : Obligations.SubtractInstructions := by
  intro o s borrow
  rw [ite_eq_toNat]
  refine ⟨_, exec_sub_or_sbb borrow o s, ?difference, sub8_c .., sub8_h .., sub8_arithmeticFlags ..,
    withRegAndFlags_regsAndFlagsOnly ..⟩
  case difference =>
    rw [reg_withRegAndFlags_same]
    exact sub8_toNat ..

/-- Settles O43: the flags of the difference without a borrow-in, which is zero exactly for equal operands. -/
theorem compareInstructions : Obligations.CompareInstructions := by
  intro o s
  have hx := (s.reg .a).isLt
  have hy := (s.operand o).isLt
  have hflags := sub8_arithmeticFlags s.board.variant s.flags (s.reg .a) (s.operand o) false
  have hdiff : ((s.reg .a).toNat + 512 - (s.operand o).toNat - false.toNat) % 256 =
      ((s.reg .a).toNat + 256 - (s.operand o).toNat) % 256 := by
    rw [Bool.toNat_false]
    omega
  rw [hdiff] at hflags
  refine ⟨_, exec_cmp o s, sub8_c .., ?zero, sub8_h .., hflags, withFlags_regsAndFlagsOnly ..⟩
  case zero =>
    obtain ⟨hzero, _⟩ := hflags
    refine hzero.trans ?_
    omega

/-! ### The decimal correction (R157) -/

theorem hiNibble_toNat (v : Byte) : (hiNibble v).toNat = v.toNat / 16 := by
  have hv := v.isLt
  simp [hiNibble, Nat.shiftRight_eq_div_pow]
  omega

/-- The low digit is corrected: a half carry, or a low digit above 9. -/
def CorrectsLow (f : Flags) (x : Nat) : Prop := f.h = true ∨ 9 < x % 16

/-- The high digit is corrected: a carry, a high digit above 9, or one that the low correction brings there. -/
def CorrectsHigh (f : Flags) (x : Nat) : Prop := f.c = true ∨ 9 < x / 16 ∨ (9 ≤ x / 16 ∧ 9 < x % 16)

section daa8
variable (daaH : DaaH) (f : Flags) (a : Byte)

theorem correctsLow_iff : CorrectsLow f a.toNat ↔ (f.h || decide (9 < (loNibble a).toNat)) = true := by
  simp [CorrectsLow, loNibble_toNat]

theorem correctsHigh_iff :
    CorrectsHigh f a.toNat ↔
      (f.c || decide (9 < (hiNibble a).toNat) ||
        (decide (9 ≤ (hiNibble a).toNat) && decide (9 < (loNibble a).toNat))) = true := by
  simp [CorrectsHigh, loNibble_toNat, hiNibble_toNat, or_assoc]

theorem daaCorr_toNat :
    (CorrectsLow f a.toNat → CorrectsHigh f a.toNat → (daaCorr f a).toNat = 0x66) ∧
      (CorrectsLow f a.toNat → ¬ CorrectsHigh f a.toNat → (daaCorr f a).toNat = 0x06) ∧
      (¬ CorrectsLow f a.toNat → CorrectsHigh f a.toNat → (daaCorr f a).toNat = 0x60) ∧
      (¬ CorrectsLow f a.toNat → ¬ CorrectsHigh f a.toNat → (daaCorr f a).toNat = 0) := by
  rw [correctsLow_iff, correctsHigh_iff]
  dsimp only [daaCorr]
  refine ⟨fun hl hh => ?_, fun hl hh => ?_, fun hl hh => ?_, fun hl hh => ?_⟩
  · rw [if_pos hl, if_pos hh]; rfl
  · rw [if_pos hl, if_neg hh]; rfl
  · rw [if_neg hl, if_pos hh]; rfl
  · rw [if_neg hl, if_neg hh]; rfl

theorem daa8_toNat : (daa8 daaH f a).1.toNat = (a.toNat + (daaCorr f a).toNat) % 256 := BitVec.toNat_add ..

theorem daa8_c : (daa8 daaH f a).2.c = true ↔ CorrectsHigh f a.toNat := (correctsHigh_iff f a).symm

theorem daa8_resultFlags : ResultFlags ((a.toNat + (daaCorr f a).toNat) % 256) (daa8 daaH f a).2 := by
  rw [← daa8_toNat daaH]
  exact logic8_resultFlags (daa8 daaH f a).1

theorem daa8_h_unchanged (hdaaH : daaH = .unchanged) : (daa8 daaH f a).2.h = f.h := by
  rw [hdaaH]
  rfl

theorem daa8_h_carry3 (hdaaH : daaH = .carry3) :
    (daa8 daaH f a).2.h = true ↔ 16 ≤ a.toNat % 16 + (daaCorr f a).toNat % 16 := by
  have hsum : ((loNibble a).setWidth 5 + (loNibble (daaCorr f a)).setWidth 5 : BitVec 5).toNat =
      a.toNat % 16 + (daaCorr f a).toNat % 16 := by
    simp only [BitVec.toNat_add, BitVec.toNat_setWidth, loNibble_toNat]
    omega
  rw [hdaaH, ← hsum]
  exact getLsbD_top_iff _

end daa8

/-- Settles O47: the correction by which of its two halves applies, and the flags of the result. -/
theorem decimalAdjust : Obligations.DecimalAdjust := by
  intro s
  obtain ⟨hboth, hlow, hhigh, hnone⟩ := daaCorr_toNat s.flags (s.reg .a)
  refine ⟨_, (daaCorr s.flags (s.reg .a)).toNat, exec_daa s, hboth, hlow, hhigh, hnone, ?sum, daa8_c ..,
    daa8_resultFlags .., daa8_h_unchanged _ _ _, daa8_h_carry3 _ _ _, withRegAndFlags_regsAndFlagsOnly ..⟩
  case sum =>
    rw [reg_withRegAndFlags_same]
    exact daa8_toNat ..

/-! ### BCD sums -/

/-- Two BCD digits from the sums of the tens and of the units: `k` is the decimal carry out of the units, `m` that
out of the tens, and the binary sum with 6 added for each of them has the two decimal digits. -/
theorem bcd_digits {tens units k m : Nat} (hk : 10 * k ≤ units) (hk' : units < 10 * k + 10)
    (hm : 10 * m ≤ tens + k) (hm' : tens + k < 10 * m + 10) :
    (16 * tens + units + (0x60 * m + 6 * k)) % 256 =
      16 * ((10 * tens + units) % 100 / 10) + (10 * tens + units) % 100 % 10 := by
  have hdecimal : (10 * tens + units) % 100 = 10 * (tens + k - 10 * m) + (units - 10 * k) := by omega
  have hbinary : 16 * tens + units + (0x60 * m + 6 * k) = 16 * (tens + k - 10 * m) + (units - 10 * k) + 256 * m := by
    omega
  rw [hdecimal, hbinary]
  omega

/-- The correction of the binary sum `a` of two BCD numbers, whose tens and units (with the carry) have the sums
given: it adds 6 for each place whose sum exceeds 9. -/
theorem bcd_correction {tens units a corr : Nat} (htens : tens ≤ 18) (hunits : units ≤ 19)
    (ha : a = (16 * tens + units) % 256) {low high : Prop} (hlow : low ↔ 16 ≤ units ∨ 9 < a % 16)
    (hhigh : high ↔ 256 ≤ 16 * tens + units ∨ 9 < a / 16 ∨ (9 ≤ a / 16 ∧ 9 < a % 16))
    (hboth : low → high → corr = 0x66) (honlyLow : low → ¬ high → corr = 0x06)
    (honlyHigh : ¬ low → high → corr = 0x60) (hnone : ¬ low → ¬ high → corr = 0) :
    (a + corr) % 256 = 16 * ((10 * tens + units) % 100 / 10) + (10 * tens + units) % 100 % 10 ∧
      (high ↔ 100 ≤ 10 * tens + units) := by
  have hlow' : low ↔ 10 ≤ units := hlow.trans (by omega)
  have hhigh' : high ↔ 100 ≤ 10 * tens + units := hhigh.trans (by omega)
  refine ⟨?_, hhigh'⟩
  obtain ⟨k, m, hcorr, hk, hk', hm, hm'⟩ : ∃ k m, corr = 0x60 * m + 6 * k ∧ 10 * k ≤ units ∧ units < 10 * k + 10 ∧
      10 * m ≤ tens + k ∧ tens + k < 10 * m + 10 := by
    rw [hlow', hhigh'] at hboth honlyLow honlyHigh hnone
    by_cases hl : 10 ≤ units <;> by_cases hh : 100 ≤ 10 * tens + units
    · exact ⟨1, 1, hboth hl hh, by omega⟩
    · exact ⟨1, 0, honlyLow hl hh, by omega⟩
    · exact ⟨0, 1, honlyHigh hl hh, by omega⟩
    · exact ⟨0, 0, hnone hl hh, by omega⟩
  rw [ha, Nat.mod_add_mod, hcorr]
  exact bcd_digits hk hk' hm hm'

theorem packedBcd_toNat {n : Nat} (hn : n < 100) : (packedBcd n).toNat = 16 * (n / 10) + n % 10 := by
  rw [packedBcd, BitVec.toNat_ofNat]
  omega

/-- The sum of ADD or ADC, with the carry-in written as a number. -/
theorem sum_spec (withCarry : Bool) (o : Operand) (s : State) :
    ∃ t, exec (Form.alu (if withCarry then .adc else .add) o).instr s = .next t ∧
      (t.reg .a).toNat =
        ((s.reg .a).toNat + (s.operand o).toNat + (if withCarry && s.flags.c then 1 else 0)) % 256 ∧
      (t.flags.c = true ↔
        256 ≤ (s.reg .a).toNat + (s.operand o).toNat + (if withCarry && s.flags.c then 1 else 0)) ∧
      (t.flags.h = true ↔
        16 ≤ (s.reg .a).toNat % 16 + (s.operand o).toNat % 16 + (if withCarry && s.flags.c then 1 else 0)) := by
  cases withCarry with
  | false =>
    obtain ⟨t, hexec, hsum, hc, hh, _⟩ := add_spec o s
    exact ⟨t, hexec, hsum, hc, hh⟩
  | true =>
    obtain ⟨t, hexec, hsum, hc, hh, _⟩ := addWithCarryInstructions o s
    exact ⟨t, hexec, hsum, hc, hh⟩

/-- Settles O48: the correction of the binary sum is the decimal sum, digit by digit. -/
theorem daaGivesBcdSum : Obligations.DaaGivesBcdSum := by
  intro s o withCarry x y hx hy ha ho
  obtain ⟨t, hadd, hsum, hcarry, hhalf⟩ := sum_spec withCarry o s
  obtain ⟨u, corr, hdaa, hboth, honlyLow, honlyHigh, hnone, hresult, hc, _⟩ := decimalAdjust t
  have hcin : (if withCarry && s.flags.c then 1 else 0) ≤ 1 := by split <;> simp
  rw [ha, ho, packedBcd_toNat hx, packedBcd_toNat hy] at hsum hcarry hhalf
  generalize (if withCarry && s.flags.c then 1 else 0) = c at *
  have hdecimal : 10 * (x / 10 + y / 10) + (x % 10 + y % 10 + c) = x + y + c := by omega
  obtain ⟨hdigits, hhigh⟩ := bcd_correction (tens := x / 10 + y / 10) (units := x % 10 + y % 10 + c)
    (by omega) (by omega) (hsum.trans (by congr 1; omega)) (or_congr_left (hhalf.trans (by omega)))
    (or_congr_left (hcarry.trans (by omega))) hboth honlyLow honlyHigh hnone
  rw [hdecimal] at hdigits hhigh
  refine ⟨t, u, hadd, hdaa, BitVec.eq_of_toNat_eq ?_, hc.trans hhigh⟩
  rw [hresult, hdigits, packedBcd_toNat (Nat.mod_lt _ (by decide))]

end Sys2Proof.Proofs

/-! ### 16-bit arithmetic (45_alu16.md): O51 and O52 -/

namespace Sys2Proof.Proofs

open Sys2Proof Sys2Proof.Machine Sys2Proof.Laws

/-! ### A pair as a number -/

theorem toNat_append_eq {m n : Nat} (x : BitVec m) (y : BitVec n) : (x ++ y).toNat = x.toNat * 2 ^ n + y.toNat := by
  rw [BitVec.toNat_append, ← Nat.shiftLeft_add_eq_or_of_lt y.isLt, Nat.shiftLeft_eq]

theorem toNat_wordOf (hi lo : Byte) : (wordOf hi lo).toNat = hi.toNat * 256 + lo.toNat := toNat_append_eq hi lo

theorem toNat_pair (s : State) (p : Pair) :
    (s.pair p).toNat = (s.reg (pairHi p)).toNat * 256 + (s.reg (pairLo p)).toNat := toNat_wordOf _ _

theorem toNat_hi_lo (v : Word) : (hiByte v).toNat * 256 + (loByte v).toNat = v.toNat := by
  rw [← toNat_wordOf, wordOf_hi_lo]

/-- An instruction whose operation is `rp[p] <- v` leaves the number `v` in the pair. -/
theorem pairNumber_spec_of_exec_eq {i : Instr} {s : State} {p : Pair} {v : Word}
    (hexec : exec i s = .next (s.setPair p v)) :
    ∃ t, exec i s = .next t ∧ (t.reg (pairHi p)).toNat * 256 + (t.reg (pairLo p)).toNat = v.toNat ∧
      RegsOnly [pairHi p, pairLo p] s t := by
  obtain ⟨t, ht, hhi, hlo, hframe⟩ := loadPair_spec_of_exec_eq hexec
  exact ⟨t, ht, by rw [hhi, hlo, toNat_hi_lo], hframe⟩

/-! ### The sum of DAD (R91) -/

section dad16
variable (f : Flags) (a b : Word)

theorem toNat_dad16_sum : (a.setWidth 17 + b.setWidth 17 : BitVec 17).toNat = a.toNat + b.toNat := by
  have ha := a.isLt
  have hb := b.isLt
  simp only [BitVec.toNat_add, BitVec.toNat_setWidth]
  omega

theorem toNat_dad16_halfSum :
    ((a.extractLsb' 0 12).setWidth 13 + (b.extractLsb' 0 12).setWidth 13 : BitVec 13).toNat =
      a.toNat % 4096 + b.toNat % 4096 := by
  simp only [BitVec.toNat_add, BitVec.toNat_setWidth, BitVec.extractLsb'_toNat, Nat.shiftRight_zero]
  omega

theorem dad16_toNat : (dad16 f a b).1.toNat = (a.toNat + b.toNat) % 65536 := by
  simp only [dad16, BitVec.toNat_setWidth, toNat_dad16_sum]

theorem dad16_c : (dad16 f a b).2.c = true ↔ 65536 ≤ a.toNat + b.toNat := by
  rw [← toNat_dad16_sum]
  exact getLsbD_top_iff _

theorem dad16_h : (dad16 f a b).2.h = true ↔ 4096 ≤ a.toNat % 4096 + b.toNat % 4096 := by
  rw [← toNat_dad16_halfSum]
  exact getLsbD_top_iff _

end dad16

/-! ### The operations -/

/-- The state after `rp[HL] <- v` and new flags. -/
def withHlAndFlags (s : State) (v : Word) (f : Flags) : State := { s.setPair .hl v with flags := f }

theorem withHlAndFlags_toNat (s : State) (v : Word) (f : Flags) :
    ((withHlAndFlags s v f).reg .h).toNat * 256 + ((withHlAndFlags s v f).reg .l).toNat = v.toNat := toNat_hi_lo v

theorem withHlAndFlags_regsAndFlagsOnly (s : State) (v : Word) (f : Flags) :
    RegsAndFlagsOnly [.h, .l] s (withHlAndFlags s v f) :=
  ⟨fun r hr => (reg_congr _ _ rfl r).trans (setPair_sameRegsBut s .hl v r hr), setPair_sp s .hl v, setPair_pc s .hl v,
    storesNothing_of_eq s _ (setPair_mem s .hl v) (setPair_board s .hl v) (setPair_output s .hl v),
    setPair_sameControl s .hl v⟩

/-- `rp[HL] <- dad16(rp[HL], rp[p])`, or SP (R165 to R168). -/
theorem exec_dad (p : PairSp) (s : State) :
    exec (Form.dad p).instr s =
      .next (withHlAndFlags s (dad16 s.flags (s.pair .hl) (s.pairSp p)).1
        (dad16 s.flags (s.pair .hl) (s.pairSp p)).2) := exec_instr _ s

/-- `rp[p] <- rp[p] + 1`, or SP (R169 to R172). -/
theorem exec_inx (p : PairSp) (s : State) :
    exec (Form.inx p).instr s = .next (s.setPairSp p (s.pairSp p + 1#16)) := exec_instr _ s

/-- `rp[p] <- rp[p] - 1`, or SP (R173 to R176). -/
theorem exec_dcx (p : PairSp) (s : State) :
    exec (Form.dcx p).instr s = .next (s.setPairSp p (s.pairSp p - 1#16)) := exec_instr _ s

/-! ### The statements -/

/-- Settles O51: DAD writes HL, C and H. -/
theorem doubleAdd : Obligations.DoubleAdd := by
  intro p s
  have hhl := toNat_pair s .hl
  refine ⟨_, exec_dad p s, (withHlAndFlags_toNat ..).trans ?sum, (dad16_c ..).trans ?carry, (dad16_h ..).trans ?half,
    rfl, rfl, rfl, withHlAndFlags_regsAndFlagsOnly ..⟩
  case sum => rw [dad16_toNat, hhl]; rfl
  case carry => rw [hhl]; rfl
  case half => rw [hhl]; rfl

theorem toNat_add_one (v : Word) : (v + 1#16).toNat = (v.toNat + 1) % 65536 := BitVec.toNat_add v 1#16

theorem toNat_sub_one (v : Word) : (v - 1#16).toNat = (v.toNat + 65535) % 65536 := by
  rw [Nat.add_comm]
  exact BitVec.toNat_sub v 1#16

/-- One more and one less in a pair, given as the field `pp` names it. -/
theorem pairStep_spec {p : Pair} {q : PairSp} (s : State) (hget : s.pairSp q = s.pair p)
    (hset : ∀ v, s.setPairSp q v = s.setPair p v) :
    (∃ t, exec (Form.inx q).instr s = .next t ∧ (t.reg (pairHi p)).toNat * 256 + (t.reg (pairLo p)).toNat =
        ((s.reg (pairHi p)).toNat * 256 + (s.reg (pairLo p)).toNat + 1) % 65536 ∧
        RegsOnly [pairHi p, pairLo p] s t) ∧
      (∃ t, exec (Form.dcx q).instr s = .next t ∧ (t.reg (pairHi p)).toNat * 256 + (t.reg (pairLo p)).toNat =
        ((s.reg (pairHi p)).toNat * 256 + (s.reg (pairLo p)).toNat + 65535) % 65536 ∧
        RegsOnly [pairHi p, pairLo p] s t) := by
  have hinx := exec_inx q s
  have hdcx := exec_dcx q s
  rw [hget, hset] at hinx hdcx
  rw [← toNat_pair, ← toNat_add_one, ← toNat_sub_one]
  exact ⟨pairNumber_spec_of_exec_eq hinx, pairNumber_spec_of_exec_eq hdcx⟩

/-- Settles O52: INX and DCX write one pair, or SP. -/
theorem incrementAndDecrementPair : Obligations.IncrementAndDecrementPair := by
  refine ⟨fun p s => ?pair, fun s => ⟨?inxSP, ?dcxSP⟩⟩
  case pair =>
    cases p with
    | bc => exact pairStep_spec (q := .bc) s rfl fun _ => rfl
    | de => exact pairStep_spec (q := .de) s rfl fun _ => rfl
    | hl => exact pairStep_spec (q := .hl) s rfl fun _ => rfl
  case inxSP =>
    have hsp : s.sp + 1#16 = BitVec.ofNat 16 (s.sp.toNat + 1) :=
      BitVec.eq_of_toNat_eq (by rw [toNat_add_one, BitVec.toNat_ofNat])
    exact hsp ▸ exec_inx .sp s
  case dcxSP =>
    have hsp : s.sp - 1#16 = BitVec.ofNat 16 (s.sp.toNat + 65535) :=
      BitVec.eq_of_toNat_eq (by rw [toNat_sub_one, BitVec.toNat_ofNat])
    exact hsp ▸ exec_dcx .sp s

end Sys2Proof.Proofs

/-! ### Rotates (46_rotate.md): O53 and O54 -/

namespace Sys2Proof.Proofs

open Sys2Proof Sys2Proof.Machine Sys2Proof.Laws

/-! ### The rotates as numbers -/

section rotates
variable (f : Flags) (a : Byte)

theorem toNat_bits0to6 : (a.extractLsb' 0 7).toNat = a.toNat % 128 := by
  simp [BitVec.extractLsb'_toNat]

theorem toNat_bits1to7 : (a.extractLsb' 1 7).toNat = a.toNat / 2 := by
  have ha := a.isLt
  simp only [BitVec.extractLsb'_toNat, Nat.shiftRight_eq_div_pow]
  omega

theorem rlc8_toNat : (rlc8 f a).1.toNat = a.toNat * 2 % 256 + a.toNat / 128 := by
  have ha := a.isLt
  have htop : (a.extractLsb' 7 1).toNat = a.toNat / 128 := by
    simp only [BitVec.extractLsb'_toNat, Nat.shiftRight_eq_div_pow]
    omega
  rw [rlc8, toNat_append_eq, toNat_bits0to6, htop]
  omega

theorem ral8_toNat : (ral8 f a).1.toNat = a.toNat * 2 % 256 + f.c.toNat := by
  rw [ral8, toNat_append_eq, toNat_bits0to6, BitVec.toNat_ofBool]
  omega

theorem rrc8_toNat : (rrc8 f a).1.toNat = a.toNat / 2 + a.toNat % 2 * 128 := by
  have hlow : (a.extractLsb' 0 1).toNat = a.toNat % 2 := by simp [BitVec.extractLsb'_toNat]
  rw [rrc8, toNat_append_eq, toNat_bits1to7, hlow]
  omega

theorem rar8_toNat : (rar8 f a).1.toNat = a.toNat / 2 + f.c.toNat * 128 := by
  rw [rar8, toNat_append_eq, toNat_bits1to7, BitVec.toNat_ofBool]
  omega

theorem getLsbD_zero_iff : a.getLsbD 0 = true ↔ a.toNat % 2 = 1 := by
  simp [BitVec.getLsbD, Nat.testBit_zero]

end rotates

/-! ### The operations -/

/-- The state after the rotate `g` (R92). -/
def rotated (g : Flags → Byte → Byte × Flags) (s : State) : State :=
  withRegAndFlags s .a (g s.flags (s.reg .a)).1 (g s.flags (s.reg .a)).2

theorem exec_rlc (s : State) : exec .rlc s = .next (rotated rlc8 s) := exec_instr .rlc s
theorem exec_ral (s : State) : exec .ral s = .next (rotated ral8 s) := exec_instr .ral s
theorem exec_rrc (s : State) : exec .rrc s = .next (rotated rrc8 s) := exec_instr .rrc s
theorem exec_rar (s : State) : exec .rar s = .next (rotated rar8 s) := exec_instr .rar s

/-! ### The nine bits C and A -/

/-- What a rotate does to the carry flag and A; it reads no other flag, so these may be any. -/
def onCarryAndA (g : Flags → Byte → Byte × Flags) (v : Bool × Byte) : Bool × Byte :=
  let r := g { s := false, z := false, h := false, p := false, c := v.1 } v.2
  (r.2.c, r.1)

/-- The state with other nine bits in C and A. -/
def withCarryAndA (s : State) (v : Bool × Byte) : State :=
  withRegAndFlags s .a v.2 { s.flags with c := v.1 }

theorem withCarryAndA_self (s : State) : withCarryAndA s (s.flags.c, s.reg .a) = s := rfl

theorem rotated_ral_withCarryAndA (s : State) (v : Bool × Byte) :
    rotated ral8 (withCarryAndA s v) = withCarryAndA s (onCarryAndA ral8 v) := rfl

theorem rotated_rar_withCarryAndA (s : State) (v : Bool × Byte) :
    rotated rar8 (withCarryAndA s v) = withCarryAndA s (onCarryAndA rar8 v) := rfl

/-! The nine bits have 512 values, over which these are evaluated. -/

theorem rar_ral_bits : ∀ v : Bool × Byte, onCarryAndA rar8 (onCarryAndA ral8 v) = v := by decide +kernel

theorem ral_rar_bits : ∀ v : Bool × Byte, onCarryAndA ral8 (onCarryAndA rar8 v) = v := by decide +kernel

theorem nine_ral_bits : ∀ v : Bool × Byte, (onCarryAndA ral8)^[9] v = v := by decide +kernel

theorem iterate_rotated_ral (n : Nat) (s : State) (v : Bool × Byte) :
    (rotated ral8)^[n] (withCarryAndA s v) = withCarryAndA s ((onCarryAndA ral8)^[n] v) := by
  induction n with
  | zero => rfl
  | succ n ih => rw [Function.iterate_succ_apply', ih, rotated_ral_withCarryAndA,
      ← Function.iterate_succ_apply' (onCarryAndA ral8)]

theorem rar_after_ral (s : State) : rotated rar8 (rotated ral8 s) = s := by
  rw [← withCarryAndA_self s, rotated_ral_withCarryAndA, rotated_rar_withCarryAndA, rar_ral_bits]

theorem ral_after_rar (s : State) : rotated ral8 (rotated rar8 s) = s := by
  rw [← withCarryAndA_self s, rotated_rar_withCarryAndA, rotated_ral_withCarryAndA, ral_rar_bits]

theorem nine_ral (s : State) : (rotated ral8)^[9] s = s := by
  rw [← withCarryAndA_self s, iterate_rotated_ral, nine_ral_bits]

/-! ### The statements -/

/-- Settles O53: each rotate writes A and C, by the numbers of their bits. -/
theorem rotateInstructions : Obligations.RotateInstructions := by
  intro s
  rw [ite_eq_toNat]
  have hframe : ∀ g, RegsAndFlagsOnly [.a] s (rotated g s) := fun _ => withRegAndFlags_regsAndFlagsOnly ..
  exact ⟨⟨_, exec_rlc s, rlc8_toNat s.flags _, getLsbD_top_iff _, rfl, rfl, rfl, rfl, hframe rlc8⟩,
    ⟨_, exec_ral s, ral8_toNat .., getLsbD_top_iff _, rfl, rfl, rfl, rfl, hframe ral8⟩,
    ⟨_, exec_rrc s, rrc8_toNat s.flags _, getLsbD_zero_iff _, rfl, rfl, rfl, rfl, hframe rrc8⟩,
    ⟨_, exec_rar s, rar8_toNat .., getLsbD_zero_iff _, rfl, rfl, rfl, rfl, hframe rar8⟩⟩

theorem rrc_after_rlc (f g : Flags) (a : Byte) : (rrc8 g (rlc8 f a).1).1 = a := by
  have ha := a.isLt
  apply BitVec.eq_of_toNat_eq
  rw [rrc8_toNat, rlc8_toNat]
  obtain ⟨htop, hdouble⟩ | ⟨htop, hdouble⟩ : (a.toNat / 128 = 0 ∧ a.toNat * 2 % 256 = a.toNat * 2) ∨
      (a.toNat / 128 = 1 ∧ a.toNat * 2 % 256 + 256 = a.toNat * 2) := by omega
  · omega
  · omega

theorem rlc_after_rrc (f g : Flags) (a : Byte) : (rlc8 g (rrc8 f a).1).1 = a := by
  have ha := a.isLt
  apply BitVec.eq_of_toNat_eq
  rw [rlc8_toNat, rrc8_toNat]
  rcases Nat.mod_two_eq_zero_or_one a.toNat with hlow | hlow <;> omega

theorem reg_a_rrc_after_rlc (s : State) : (rotated rrc8 (rotated rlc8 s)).reg .a = s.reg .a :=
  rrc_after_rlc s.flags (rotated rlc8 s).flags (s.reg .a)

theorem reg_a_rlc_after_rrc (s : State) : (rotated rlc8 (rotated rrc8 s)).reg .a = s.reg .a :=
  rlc_after_rrc s.flags (rotated rrc8 s).flags (s.reg .a)

/-- Settles O54: RAL and RAR move nine bits one place each way, RLC and RRC eight. -/
theorem rotatesUndoEachOther : Obligations.RotatesUndoEachOther := by
  intro s
  refine ⟨⟨_, exec_ral s, ?rar⟩, ⟨_, exec_rar s, ?ral⟩, ⟨_, _, exec_rlc s, exec_rrc _, reg_a_rrc_after_rlc s⟩,
    ⟨_, _, exec_rrc s, exec_rlc _, reg_a_rlc_after_rrc s⟩, ?nine⟩
  case rar => rw [exec_rar, rar_after_ral]
  case ral => rw [exec_ral, ral_after_rar]
  case nine => exact congrArg Host.Outcome.next (nine_ral s)

end Sys2Proof.Proofs
